-- ==== Sys2Proof/Word.lean ====
section
/-! DEFINITION. The words of the DW40's host link: bytes, 32-bit registers and 48-bit addresses (spec R1, R170). -/

namespace Sys2Proof

/-- One byte of host memory. -/
abbrev Byte := BitVec 8

/-- One 32-bit register of the window (R170). -/
abbrev Word := BitVec 32

/-- An address on the host link: 48 bits wide (R1). -/
abbrev Addr := BitVec 48

end Sys2Proof
end

