-- ==== Sys2Proof/Config.lean ====
section
/-! DEFINITION. The fixed sizes and times of the part, and the free values: constants without a body, for what the
manual leaves open. -/

namespace Sys2Proof.Config

/-- FREE VALUE (log 6). Whether the byte at host address `addr` of the `n`-th write that met a fault or a time-out
reached host memory. R168 leaves the location "as the host link left it", and R177 says that a write accepted after
its time-out "may still reach host memory". -/
opaque faultedByteLands : (n addr : Nat) → Bool

/-- FREE VALUE (log 6). Whether the state word of the `n`-th write that met a fault or a time-out reached host memory, all
four bytes or none: R186 writes a state word in one access, and R164 leaves the old value or the new one. -/
opaque faultedWordLands : (n : Nat) → Bool

/-- Milliseconds of a service day (R2). -/
def dayMs : Nat := 86400000
/-- U is 40 bits wide (R31). -/
def uModulus : Nat := 2 ^ 40
/-- Counters described as wrapping are 32 bits wide (R3). -/
def countModulus : Nat := 2 ^ 32
/-- Addresses on the host link are 48 bits wide (R1). -/
def addrModulus : Nat := 2 ^ 48
/-- The largest posting sequence, a count of 40 bits from 1 (R95). -/
def postingLimit : Nat := 2 ^ 40 - 1
/-- Service day numbers run from 0 to 65534 (R34). -/
def dayModulus : Nat := 65535
/-- The roster holds at most 192 departures (R8). -/
def rosterLimit : Nat := 192
/-- The notice table holds at most 24 notices (R96). -/
def noticeLimit : Nat := 24
/-- The post queue holds at most 16 slot numbers (R173). -/
def postLimit : Nat := 16
/-- The cue queue holds at most 32 cues (R149). -/
def cueLimit : Nat := 32
/-- The name cache holds at most 96 entries (R123). -/
def cacheLimit : Nat := 96
/-- A lane's frame queue holds at most 64 line records (R127). -/
def frameQueueLimit : Nat := 64
/-- The tally list holds at most 32 entries (R167). -/
def tallyLimit : Nat := 32
/-- A change history keeps the last 8 accepted changes (R52, R56). -/
def historyLimit : Nat := 8
/-- A sensor holds its last 8 samples (R138). -/
def sampleLimit : Nat := 8
/-- A cue page holds 16 cues (R161). -/
def pageCues : Nat := 16
/-- A phrase list holds at most 48 codes (R156). -/
def phraseLimit : Nat := 48
/-- A mark less than 50,000 ms after the last accepted one is bounce (R40). -/
def bounceMs : Nat := 50000
/-- The holdover timeout (R46). -/
def holdoverMs : Nat := 150000
/-- The chatter window (R57). -/
def chatterMs : Nat := 120000
/-- The time after which a memory request has timed out (R177). -/
def requestTimeoutMs : Nat := 50
/-- The time after which the page at the cursor is tried again (R160). -/
def pageRetryMs : Nat := 250
/-- A duty moves by at most 20 permille at a running tick (R140). -/
def rampStep : Nat := 20

end Sys2Proof.Config
end

