-- ==== Sys2Proof/Syntax.lean ====
section
/-! DEFINITION. The commands the DW40 takes: one constructor of `Instr` for each row of spec/opcode_table.json, with
the operands the rules give it. -/

namespace Sys2Proof

/-- Sub-kinds of a CONTACT report (R70). -/
inductive ContactSub where
  | baseline | edge | fault
  deriving DecidableEq, Repr

/-- Sub-kinds of a CLOCK report (R50). -/
inductive ClockSub where
  | carry | stepped | set | tracking | holdover
  deriving DecidableEq, Repr

/-- A cue request, as the Roster Unit, the Platform Unit or the Station Clock makes it (R141, R143). A request about a
departure names it by id, one about a notice by its notice id; what the cue captures is read when the request is
taken (R144). -/
inductive CueReq where
  | boarding (id : Nat)
  | closing (id : Nat)
  | platformChange (id old new : Nat)
  | delay (id : Nat)
  | cancellation (id : Nat)
  | reinstated (id : Nat)
  | notice (noticeId : Nat)
  | departed (id : Nat)
  | retired (id : Nat)
  | contact (platform : Nat) (sub : ContactSub)
  | clock (sub : ClockSub) (offset : Option Int)
  deriving DecidableEq, Repr

/-- The register accesses that R171 ignores. -/
inductive IgnoredWrite where
  /-- a 32-bit write to IDENT (offset 0x00) -/
  | ident (value : Word)
  /-- a 32-bit write to RUNSTAT (offset 0x0C) -/
  | runstat (value : Word)
  /-- a 32-bit write to CTRL of a value that is no command -/
  | ctrl (value : Word)
  /-- a 32-bit write to an offset from 0x1C to 0x3C -/
  | unused (offset : Nat) (value : Word)
  /-- an access of fewer than 32 bits at any offset -/
  | narrow (offset bits : Nat) (value : Word)
  deriving DecidableEq, Repr

/-- What a sample finds on a field line: the level, and whether something outside drives the line (R131; DESIGN CHOICE,
log 9). -/
structure LineInput where
  level : Bool
  driven : Bool
  deriving DecidableEq, Repr

/-- What stands on the 48 field lines at a START: their levels, and which of them something outside drives (R131,
R133; DESIGN CHOICE, log 9). -/
structure LineInputs where
  levels : BitVec 48
  driven : BitVec 48
  deriving DecidableEq, Repr

/-- A command of the part: the rows of spec/opcode_table.json, in the table's order. -/
inductive Instr where
  | start
  | stop
  | reset
  | powerOnReset
  | post (value : Word)
  | xbaseWrite (value : Word)
  | attnWrite (value : Word)
  | attnenWrite (value : Word)
  | registerWriteIgnored (access : IgnoredWrite)
  | headerReadComplete
  | takenWriteComplete
  | fetchCompletion
  | resultWriteComplete
  | doneWriteComplete
  /-- `levels`: the levels on L0..L47 at the read's completion; `driven`: the lines that something outside drives (R131,
  R133, log 9) -/
  | layoutReadComplete (inputs : LineInputs)
  | runningTick
  | flashEnd
  | noticeExpiry
  | noticeRepeat
  | slewPoint
  | stationSecond
  | stationMinute
  | dayRollover
  | holdoverTimeout
  /-- `level`: the new level of the MARK line (R133, R134) -/
  | mark (level : Bool)
  /-- `line`: the field line; `level`: the level on it; `driven`: something outside drives it (R131, R133) -/
  | contactLevelChange (line : Nat) (input : LineInput)
  | pendingChangeExpiry (platform : Nat)
  | absentEdge (platform : Nat)
  | presentEdge (platform : Nat)
  /-- the readings of L40..L43 (R138) -/
  | sensorSample (r0 r1 r2 r3 : BitVec 10)
  | framePeriod
  | frameRequest
  | nameReadComplete
  | laneTransmissionComplete (lane : Nat)
  | cueRequest (request : CueReq)
  /-- the departures whose pending call cues are to be removed (R147) -/
  | removalRequest (ids : List Nat)
  | stateWordReadComplete
  | pageRetry
  | cueRecordWriteComplete
  | holdExpiry
  | pageHeaderWriteComplete
  | closedWriteComplete
  | strobePulseEnd (line : Nat)
  | tallyHalfwordReadComplete
  | tallyWordReadComplete
  | tallyHalfwordWriteComplete
  | tallyWordWriteComplete
  | publishCountWriteComplete
  | publishContentWriteComplete
  | memoryFault
  | memoryRequestTimeout
  | openWriteComplete
  | hostMemoryWrite (addr : Addr) (bytes : List Byte)
  | dimPeriodStart
  deriving DecidableEq, Repr

end Sys2Proof
end

