-- ==== Sys2Proof/WellFormed.lean ====
section
/-! DEFINITION. Which commands are well formed: their operands lie in the ranges the rules give. -/

namespace Sys2Proof

/-- The access is one that R171 ignores. -/
def IgnoredWrite.wf : IgnoredWrite → Bool
  | .ident _ => true
  | .runstat _ => true
  | .ctrl v => v != 1#32 && v != 2#32 && v != 3#32
  | .unused off _ => decide (0x1C ≤ off) && decide (off ≤ 0x3C)
  | .narrow off bits _ => decide (off < 0x40) && decide (bits < 32)

/-- Departure ids run from 1 to 65534 (Conventions of 00_scope.md). -/
def wfDepartureId (id : Nat) : Bool := decide (1 ≤ id) && decide (id ≤ 65534)

/-- Platform numbers run from 1 to 32 (Conventions of 00_scope.md). -/
def wfPlatform (p : Nat) : Bool := decide (1 ≤ p) && decide (p ≤ 32)

/-- R50: an offset is carried by STEPPED and TRACKING and by no other sub-kind; R41: it lies in -30000..29999. -/
def wfClockOffset (sub : ClockSub) (offset : Option Int) : Bool :=
  match sub, offset with
  | .stepped, some o => decide (-30000 ≤ o) && decide (o ≤ 29999)
  | .tracking, some o => decide (-30000 ≤ o) && decide (o ≤ 29999)
  | .stepped, none => false
  | .tracking, none => false
  | _, none => true
  | _, some _ => false

/-- A cue request names an id, a platform or a notice id (1..255, R95) of its range. -/
def CueReq.wf : CueReq → Bool
  | .boarding id | .closing id | .delay id | .cancellation id | .reinstated id | .departed id | .retired id =>
    wfDepartureId id
  | .platformChange id old new => wfDepartureId id && wfPlatform old && wfPlatform new
  | .notice n => decide (1 ≤ n) && decide (n ≤ 255)
  | .contact p _ => wfPlatform p
  | .clock sub offset => wfClockOffset sub offset

/-- A command is well formed when each operand lies in its range. -/
def Instr.wf : Instr → Bool
  | .registerWriteIgnored w => w.wf
  | .contactLevelChange line _ => decide (line < 48)
  | .pendingChangeExpiry p => wfPlatform p
  | .absentEdge p => wfPlatform p
  | .presentEdge p => wfPlatform p
  | .laneTransmissionComplete lane => decide (lane < 16)
  | .cueRequest r => r.wf
  | .removalRequest ids => ids.all wfDepartureId
  | .strobePulseEnd line => decide (line < 48)
  | .hostMemoryWrite addr bytes => decide (addr.toNat + bytes.length ≤ Config.addrModulus)
  | .start | .stop | .reset | .powerOnReset | .post _ | .xbaseWrite _ | .attnWrite _ | .attnenWrite _
  | .headerReadComplete | .takenWriteComplete | .fetchCompletion | .resultWriteComplete | .doneWriteComplete
  | .layoutReadComplete _ | .runningTick | .flashEnd | .noticeExpiry | .noticeRepeat | .slewPoint | .stationSecond
  | .stationMinute | .dayRollover | .holdoverTimeout | .mark _ | .sensorSample _ _ _ _ | .framePeriod | .frameRequest
  | .nameReadComplete | .stateWordReadComplete | .pageRetry | .cueRecordWriteComplete | .holdExpiry
  | .pageHeaderWriteComplete | .closedWriteComplete | .tallyHalfwordReadComplete | .tallyWordReadComplete
  | .tallyHalfwordWriteComplete | .tallyWordWriteComplete | .publishCountWriteComplete | .publishContentWriteComplete
  | .memoryFault | .memoryRequestTimeout | .openWriteComplete | .dimPeriodStart => true

end Sys2Proof
end

