-- ==== Sys2Proof/Machine/State.lean ====
section
/-! DEFINITION. Everything the DW40 holds, block by block, as plain data; the reasons a step can stop; the state right
after reset. Running times are counts of milliseconds of U (R31). -/

namespace Sys2Proof.Machine

/-! ### Enumerations -/

/-- The run states, coded 0 to 3 in RUNSTAT (R170, R180). -/
inductive RunState where
  | stopped | starting | running | stopping
  deriving DecidableEq, Repr

/-- The clock states (R36), coded 0 UNSET, 1 HOLDOVER, 2 TRACKING (R190). -/
inductive ClockState where
  | unset | holdover | tracking
  deriving DecidableEq, Repr

/-- The contact states (R52), coded 0 UNKNOWN, 1 PRESENT, 2 ABSENT, 3 FAULT (R190). -/
inductive ContactState where
  | unknown | present | absent | fault
  deriving DecidableEq, Repr

/-- The departure states (R4). -/
inductive DepState where
  | listed | boarding | closing | departed | cancelled
  deriving DecidableEq, Repr

/-- A delay: whole minutes, or UNKNOWN, a value of its own (Conventions of 00_scope.md). -/
inductive Delay where
  | known (minutes : Nat)
  | unknown
  deriving DecidableEq, Repr

/-- The scope of a notice with its scope value (R95). -/
inductive Scope where
  | wall
  | platform (p : Nat)
  | departure (id : Nat)
  deriving DecidableEq, Repr

/-- The eleven cue kinds (R141). -/
inductive CueKind where
  | boarding | closing | platformChange | delay | cancellation | reinstated | notice | departed | retired | contact
  | clock
  deriving DecidableEq, Repr

/-- Reasons of a refused post (R170). -/
inductive PostRefusal where
  | none | full | notRunning | range | stray
  deriving DecidableEq, Repr

/-- The request classes of the arbiter (R176). -/
inductive ReqClass where
  | layout | sheet | name | page | tally | status
  deriving DecidableEq, Repr

/-- The flags of ATTN, bits 0 to 6 (R170). -/
inductive AttnFlag where
  | sheetDone | cuePage | clockEvent | contactFault | postRefused | memoryFault | runState
  deriving DecidableEq, Repr

/-! ### Exchange Port -/

/-- The accesses the part makes on the host link (R174, R124, R160, R161, R163, R168, R178, R181). -/
inductive Access where
  | layoutRead
  | headerRead | takenWrite | unitRead | resultWrite | doneWrite
  | nameRead
  | stateWordRead | openWrite | recordWrite | pageHeaderWrite | closedWrite
  | tallyHalfRead | tallyWordRead | tallyHalfWrite | tallyWordWrite
  | publishCountWrite | publishContentWrite
  deriving DecidableEq, Repr

/-- One memory request (R176): its access, the address of its first byte, its length, and for a write its bytes. -/
structure MemReq where
  access : Access
  addr : Nat
  len : Nat
  data : List Byte
  deriving DecidableEq, Repr

/-- The request on the link, with the U at which it started (R177). -/
structure InFlight where
  req : MemReq
  since : Nat
  deriving DecidableEq, Repr

/-- The step of R174 that a taken post has reached: the request that is outstanding. -/
inductive SheetPhase where
  | headerRead | takenWrite | unitRead | resultWrite | doneWrite
  deriving DecidableEq, Repr

/-- The host's fields of a slot header (R189). -/
structure SheetHeader where
  dayStamp : Nat
  unitCount : Nat
  guard : Bool
  expected : Nat
  deriving DecidableEq, Repr

/-- The taken post (R174). -/
structure SheetJob where
  slot : Nat
  phase : SheetPhase
  header : SheetHeader
  deriving DecidableEq, Repr

/-- The write of R178 that a publication waits for. -/
inductive PubPhase where
  | odd | content | even
  deriving DecidableEq, Repr

/-- A publication of the status page in progress (R178): the base address it keeps and its copied fields. -/
structure Publication where
  phase : PubPhase
  base : Nat
  content : List Byte
  deriving DecidableEq, Repr

/-- The steps of the STOPPING sequence that can wait (R184, steps 1 to 4). -/
inductive StopStage where
  | sheet | frame | page | lane
  deriving DecidableEq, Repr

/-- The Exchange Port: the registers, the post queue, the memory request arbiter, the status page publication. -/
structure XP where
  run : RunState
  xbase : Word
  attn : BitVec 7
  attnen : BitVec 7
  postQueue : List Nat
  faultCode : Nat
  faultIndex : Nat
  refusedSlot : Nat
  refusal : PostRefusal
  faultArea : Option ReqClass
  faultAddr : Nat
  stopRequested : Bool
  stopStage : Option StopStage
  sheet : Option SheetJob
  inFlight : Option InFlight
  waiting : List MemReq
  publishCount : Nat
  publication : Option Publication
  publishWanted : Bool
  clampCount : Nat
  deriving DecidableEq, Repr

/-! ### Roster Unit -/

/-- A departure record (R4). E, K and C are derived from it (R5). -/
structure Departure where
  id : Nat
  label : List Byte
  kind : Nat
  quiet : Bool
  sched : Int
  delay : Delay
  announced : Delay
  reason : Option Nat
  dest : Nat
  calls : List Nat
  platform : Option Nat
  movedFrom : List Nat
  flashEnd : Option Nat
  state : DepState
  stamp : Nat
  boardingCalled : Option Nat
  closingCalled : Bool
  deriving DecidableEq, Repr

/-- A notice record (R95). -/
structure Notice where
  id : Nat
  scope : Scope
  priority : Nat
  text : Nat
  speak : Bool
  repeatMin : Nat
  durationS : Nat
  seq : Nat
  postedAt : Nat
  lastSpoken : Option Nat
  deriving DecidableEq, Repr

/-- The timing parameters of departures (R12) and the flash time (R65). -/
structure RosterParams where
  board : Nat
  close : Nat
  arrive : Nat
  depart : Nat
  grace : Nat
  gone : Nat
  cancel : Nat
  stale : Nat
  delayStep : Nat
  flashTime : Nat
  deriving DecidableEq, Repr

/-- The Roster Unit. `closed` holds the closed flag of platforms 1 to 32 in order (R52). -/
structure RU where
  roster : List Departure
  notices : List Notice
  closed : List Bool
  nextPosting : Nat
  generation : Nat
  par : RosterParams
  deriving DecidableEq, Repr

/-! ### Platform Unit -/

/-- A pending change of a contact: the occupancy (`true` for present) and the U since which it has lasted (R52). -/
structure Pending where
  present : Bool
  since : Nat
  deriving DecidableEq, Repr

/-- The platform record but for its closed flag, which the Roster Unit owns (R52). -/
structure PlatformRec where
  line : Option Nat
  presentWhenLow : Bool
  filter : Nat
  contact : ContactState
  pending : Option Pending
  history : List Nat
  deriving DecidableEq, Repr

/-- The Platform Unit. `platforms` holds the records of platforms 1 to 32 in order. -/
structure PU where
  platformCount : Nat
  platforms : List PlatformRec
  deriving DecidableEq, Repr

/-! ### Station Clock -/

/-- The Station Clock (R37). -/
structure SC where
  u : Nat
  t : Nat
  day : Nat
  clock : ClockState
  slew : Int
  candidate : Option Int
  lastMark : Option Nat
  rollover : Nat
  stepLimit : Nat
  deriving DecidableEq, Repr

/-! ### Wall Composer -/

/-- The configuration of a BOARD panel (R106). Bit p - 1 of `platformMask` selects platform p (R187). -/
structure BoardCfg where
  rows : Nat
  fixed : Nat
  noticeRow : Bool
  platformMask : BitVec 32
  unassigned : Bool
  kindMask : BitVec 8
  horizon : Nat
  dwell : Nat
  deriving DecidableEq, Repr

/-- The panel kinds with their configuration (R106). -/
inductive PanelKind where
  | board (cfg : BoardCfg)
  | platform (p : Nat)
  | clock (seconds : Bool)
  | strip
  deriving DecidableEq, Repr

/-- One field of a row: its text and the flash attribute (R129). -/
structure Field where
  text : List Byte
  flash : Bool
  deriving DecidableEq, Repr

/-- The content of a row: its fields and its colour class (R118, R129). -/
structure Row where
  fields : List Field
  colour : Nat
  deriving DecidableEq, Repr

/-- A panel: its place on the wall, its sent image (R126) and, for a board, its page index and last-advance time
(R117). -/
structure Panel where
  kind : PanelKind
  lane : Nat
  addr : Nat
  image : List (Option Row)
  page : Nat
  lastAdvance : Nat
  deriving DecidableEq, Repr

/-- A copy of a name entry (R123, R194). -/
structure NameText where
  display : List Byte
  short : List Byte
  codes : List Nat
  deriving DecidableEq, Repr

/-- An entry of the name cache. -/
structure NameEntry where
  idx : Nat
  copy : NameText
  deriving DecidableEq, Repr

/-- A miss of the name fetcher, marked with the blocks that asked (R124). -/
structure Miss where
  idx : Nat
  composer : Bool
  sequencer : Bool
  deriving DecidableEq, Repr

/-- The name fetcher's read, with the used-once mark of R125. -/
structure Fetch where
  miss : Miss
  once : Bool
  deriving DecidableEq, Repr

/-- What a snapshot copies of a departure (R110). E and K follow from S and D. -/
structure SnapDep where
  id : Nat
  kind : Nat
  sched : Int
  delay : Delay
  state : DepState
  platform : Option Nat
  movedFrom : List Nat
  dest : Nat
  calls : List Nat
  deriving DecidableEq, Repr

/-- What a snapshot copies of a notice (R110). -/
structure SnapNotice where
  id : Nat
  scope : Scope
  priority : Nat
  text : Nat
  deriving DecidableEq, Repr

/-- A frame's snapshot (R110). `closed` lists the closed platforms in service. -/
structure Snapshot where
  deps : List SnapDep
  notices : List SnapNotice
  closed : List Nat
  u : Nat
  t : Nat
  rollover : Nat
  clock : ClockState
  deriving DecidableEq, Repr

/-- The frame in flight (R110 to R112): its number, whether it is a full refresh, its snapshot, its own name copies,
the names it still awaits, and whether it has reached EMIT. -/
structure Frame where
  number : Nat
  full : Bool
  snap : Snapshot
  copies : List (Nat × NameText)
  awaiting : List Nat
  emitting : Bool
  deriving DecidableEq, Repr

/-- The twelve fixed texts in the order of R187. -/
structure FixedTexts where
  cancelled : Option Nat
  departed : Option Nat
  delayed : Option Nat
  closing : Option Nat
  boarding : Option Nat
  onTime : Option Nat
  expected : Option Nat
  minutes : Option Nat
  platformWord : Option Nat
  closedText : Option Nat
  noDepartures : Option Nat
  separator : Option Nat
  deriving DecidableEq, Repr

/-- The Wall Composer. `cache` is in order of use, the least recently used entry first. -/
structure WC where
  framesStarted : Nat
  framesCompleted : Nat
  frameWanted : Bool
  lastSnapshot : Option Nat
  frame : Option Frame
  panels : List Panel
  cache : List NameEntry
  fetch : Option Fetch
  misses : List Miss
  framePeriod : Nat
  refreshCount : Nat
  texts : FixedTexts
  colours : List Nat
  nameOrigin : Nat
  nameSize : Nat
  deriving DecidableEq, Repr

/-! ### Field Line Unit -/

/-- The edges that a MARK line counts (R131, R134). -/
inductive MarkEdge where
  | rising | falling | both
  deriving DecidableEq, Repr

/-- The function of a field line with its options (R131). -/
inductive LineFn where
  | idle
  | contact (pullUp : Bool)
  | mark (edge : MarkEdge)
  | lane (n : Nat)
  | strobe (activeLow : Bool) (width : Nat)
  | dimTrue
  | dimComp
  | analog
  deriving DecidableEq, Repr

/-- A field line: its function, its last sampled level (R133) and its pulse end (R135). -/
structure FieldLine where
  fn : LineFn
  level : Bool
  pulseEnd : Option Nat
  deriving DecidableEq, Repr

/-- A line record (R129), with the place of its panel in the panel table, by which its sent image is found. -/
structure LineRec where
  panel : Nat
  addr : Nat
  row : Nat
  content : Row
  deriving DecidableEq, Repr

/-- A clock record (R129). -/
structure ClockRec where
  addr : Nat
  text : List Byte
  holdover : Bool
  deriving DecidableEq, Repr

/-- The record a lane's transmitter is sending (R129). -/
inductive Sending where
  | line (r : LineRec)
  | clock (r : ClockRec)
  deriving DecidableEq, Repr

/-- A lane: its queues and its transmitter (R127 to R129), and the records of the Wall Composer that wait for a place
in its frame queue (R112, R127). -/
structure Lane where
  frameQueue : List LineRec
  clockQueue : List ClockRec
  sending : Option Sending
  waiting : List LineRec
  deriving DecidableEq, Repr

/-- The parameters of a dim channel (R136). -/
structure DimParams where
  sensor : Option Nat
  base : Nat
  slope : Nat
  min : Nat
  max : Nat
  nightStart : Nat
  nightEnd : Nat
  nightMax : Nat
  dead : Nat
  deriving DecidableEq, Repr

/-- The waveform of a dim pair in one period of 1 ms (R137): for each line the part of the period, in units of
100 ns, in which it is high; absent when it is low throughout. -/
structure DimDrive where
  trueHigh : Option (Nat × Nat)
  compHigh : Option (Nat × Nat)
  deriving DecidableEq, Repr

/-- A dim channel: its parameters, its duty in permille, and what its pair is driven with (absent: driving nothing). -/
structure Dim where
  par : DimParams
  duty : Nat
  drive : Option DimDrive
  deriving DecidableEq, Repr

/-- The Field Line Unit: 16 lanes, 48 lines, 4 dim channels, 4 sensors with their samples, oldest first (R138). -/
structure FU where
  lanes : List Lane
  lines : List FieldLine
  dims : List Dim
  sensors : List (List Nat)
  deriving DecidableEq, Repr

/-! ### Cue Sequencer -/

/-- What a cue captures of its departure (R144). -/
structure DepCapture where
  id : Nat
  label : List Byte
  sched : Int
  delay : Delay
  schedMin : Nat
  expMin : Option Nat
  reason : Option Nat
  dest : Nat
  calls : List Nat
  deriving DecidableEq, Repr

/-- What a NOTICE cue captures of its notice (R144). -/
structure NoticeCapture where
  id : Nat
  text : Nat
  scope : Scope
  deriving DecidableEq, Repr

/-- What a CONTACT report captures (R70). -/
structure ContactCapture where
  sub : ContactSub
  state : ContactState
  time : Nat
  deriving DecidableEq, Repr

/-- What a CLOCK report captures (R50). -/
structure ClockCapture where
  sub : ClockSub
  state : ClockState
  day : Nat
  t : Nat
  offset : Option Int
  deriving DecidableEq, Repr

/-- A cue (R144): its kind, priority, zone mask (bit 0 the concourse, bit p platform p), creation sequence and frame
ticket, whether it has become eligible (R152), and its captures. -/
structure Cue where
  kind : CueKind
  priority : Nat
  zones : BitVec 33
  seq : Nat
  ticket : Nat
  eligible : Bool
  platform : Option Nat
  oldPlatform : Option Nat
  dep : Option DepCapture
  notice : Option NoticeCapture
  contact : Option ContactCapture
  clock : Option ClockCapture
  deriving DecidableEq, Repr

/-- The close causes noted on a page (R162). -/
structure CloseCauses where
  full : Bool
  urgent : Bool
  hold : Bool
  stop : Bool
  deriving DecidableEq, Repr

/-- How far the work on the open page has come: its OPEN write is outstanding, it takes cues, or it is closing with
the dropped and superseded counts that R163 step 1 took. -/
inductive PagePhase where
  | opening
  | filling
  | closing (dropped superseded : Nat)
  deriving DecidableEq, Repr

/-- The open page (R159). -/
structure OpenPage where
  page : Nat
  seq : Nat
  count : Nat
  firstCue : Option Nat
  causes : CloseCauses
  phase : PagePhase
  deriving DecidableEq, Repr

/-- The open attempt (R159): a state-word read in flight, or a retry time. -/
inductive OpenAttempt where
  | reading
  | retry (at_ : Nat)
  deriving DecidableEq, Repr

/-- The cue whose write is in progress (R153, R157): its record number in the page, its name copies, the names still
awaited, and whether its record write has been requested. -/
structure CueWrite where
  cue : Cue
  record : Nat
  copies : List (Nat × NameText)
  awaiting : List Nat
  requested : Bool
  deriving DecidableEq, Repr

/-- A template item (R155, R187). -/
inductive Item where
  | literal (code : Nat)
  | runLabel | dest | calls | platform | oldPlatform | schedTime | expTime | delayMin | reason | noticeText
  deriving DecidableEq, Repr

/-- An entry of the tally list (R167). -/
structure TallyEntry where
  code : Nat
  halfAddr : Nat
  wordAddr : Nat
  deriving DecidableEq, Repr

/-- The access that the tally update at the head of the list waits for (R168). `carry` holds the word read when the
halfword wraps. -/
inductive TallyStep where
  | readHalf
  | readWord
  | writeHalf (carry : Option Nat)
  | writeWord
  deriving DecidableEq, Repr

/-- The Cue Sequencer. -/
structure CQ where
  queue : List Cue
  nextSeq : Nat
  dropped : Nat
  superseded : Nat
  cursor : Nat
  nextPageSeq : Nat
  openPage : Option OpenPage
  attempt : Option OpenAttempt
  writing : Option CueWrite
  holdTime : Nat
  priorities : List Nat
  templates : List (List Item)
  charBase : Nat
  numberBase : Nat
  hourBase : Nat
  minuteBase : Nat
  andCode : Option Nat
  tallyOrigin : Nat
  tallySize : Nat
  tallyExceptions : Nat
  tallyList : List TallyEntry
  tallyStep : Option TallyStep
  deriving DecidableEq, Repr

/-! ### The whole -/

/-- The DW40 with the host memory it reads and writes, the queue of waiting commands, and the model's counter of free
values (log 6). -/
structure State where
  xp : XP
  ru : RU
  pu : PU
  sc : SC
  wc : WC
  fu : FU
  cq : CQ
  mem : List Host.Cell
  pending : List Instr
  freeCount : Nat
  deriving DecidableEq, Repr

/-- Why a step stops with a fault. -/
inductive Fault where
  /-- Raised by HOST_MEMORY_WRITE when its bytes run past the last 48-bit address (R1): such addresses do not exist.
  Safe: the model stops where no host access can happen. -/
  | outsideAddressSpace
  deriving DecidableEq, Repr

/-- Why a step is refused. -/
inductive Refusal where
  /-- Raised by `exec` for a command that has no meaning in the model yet; no arm raises it. Safe: the model stops. -/
  | notModelled (mnemonic : String)
  deriving DecidableEq, Repr

/-! ### The state after reset -/

/-- The Exchange Port after reset (R169, R171, R178, R180). -/
def XP.reset : XP where
  run := .stopped
  xbase := 0
  attn := 0
  attnen := 0
  postQueue := []
  faultCode := 0
  faultIndex := 0
  refusedSlot := 0
  refusal := .none
  faultArea := none
  faultAddr := 0
  stopRequested := false
  stopStage := none
  sheet := none
  inFlight := none
  waiting := []
  publishCount := 0
  publication := none
  publishWanted := false
  clampCount := 0

/-- The default timing parameters (R12, R65). -/
def RosterParams.defaults : RosterParams where
  board := 600
  close := 60
  arrive := 1800
  depart := 120
  grace := 60
  gone := 60
  cancel := 15
  stale := 30
  delayStep := 5
  flashTime := 120

/-- The Roster Unit after reset (R8, R12, R28, R52, R96). -/
def RU.reset : RU where
  roster := []
  notices := []
  closed := List.replicate 32 false
  nextPosting := 1
  generation := 0
  par := RosterParams.defaults

/-- A platform record after reset (R52). -/
def PlatformRec.reset : PlatformRec where
  line := none
  presentWhenLow := false
  filter := 2000
  contact := .unknown
  pending := none
  history := []

/-- The Platform Unit after reset: no platform in service (R52). -/
def PU.reset : PU where
  platformCount := 0
  platforms := List.replicate 32 PlatformRec.reset

/-- The Station Clock after reset (R37). -/
def SC.reset : SC where
  u := 0
  t := 0
  day := 0
  clock := .unset
  slew := 0
  candidate := none
  lastMark := none
  rollover := 180
  stepLimit := 3000

/-- No fixed text (R107). -/
def FixedTexts.none : FixedTexts :=
  ⟨.none, .none, .none, .none, .none, .none, .none, .none, .none, .none, .none, .none⟩

/-- The Wall Composer after reset (R106, R107, R109, R123, R124; lastSnapshot and nameOrigin: DESIGN CHOICE, log 19). -/
def WC.reset : WC where
  framesStarted := 0
  framesCompleted := 0
  frameWanted := false
  lastSnapshot := none
  frame := none
  panels := []
  cache := []
  fetch := none
  misses := []
  framePeriod := 500
  refreshCount := 120
  texts := FixedTexts.none
  colours := [0, 1, 2, 3, 4, 5, 6, 7]
  nameOrigin := 0
  nameSize := 0

/-- A lane after reset (R127, R128, R130). -/
def Lane.reset : Lane := ⟨[], [], none, []⟩

/-- A field line after reset: IDLE (R131), pulse end absent (R135); the held level is a DESIGN CHOICE (log 19). -/
def FieldLine.reset : FieldLine := ⟨.idle, false, none⟩

/-- The default parameters of a dim channel (R136). -/
def DimParams.defaults : DimParams where
  sensor := none
  base := 500
  slope := 0
  min := 0
  max := 1000
  nightStart := 0
  nightEnd := 0
  nightMax := 1000
  dead := 10

/-- A dim channel after reset: duty 0 (R136), driving nothing (R131). -/
def Dim.reset : Dim := ⟨DimParams.defaults, 0, none⟩

/-- The Field Line Unit after reset. -/
def FU.reset : FU where
  lanes := List.replicate 16 Lane.reset
  lines := List.replicate 48 FieldLine.reset
  dims := List.replicate 4 Dim.reset
  sensors := List.replicate 4 []

/-- The Cue Sequencer after reset (R141, R144, R149, R151, R154, R159, R166, R167; andCode and tallySize: DESIGN
CHOICE, log 19). -/
def CQ.reset : CQ where
  queue := []
  nextSeq := 1
  dropped := 0
  superseded := 0
  cursor := 0
  nextPageSeq := 1
  openPage := none
  attempt := none
  writing := none
  holdTime := 500
  priorities := [1, 1, 0, 2, 0, 2, 0, 1, 1, 1, 1]
  templates := List.replicate 11 []
  charBase := 0
  numberBase := 0
  hourBase := 0
  minuteBase := 0
  andCode := none
  tallyOrigin := 0
  tallySize := 0
  tallyExceptions := 0
  tallyList := []
  tallyStep := none

/-- The machine right after reset: every block at its reset values (R185), nothing written to host memory, no command
waiting. -/
def State.reset : State where
  xp := XP.reset
  ru := RU.reset
  pu := PU.reset
  sc := SC.reset
  wc := WC.reset
  fu := FU.reset
  cq := CQ.reset
  mem := []
  pending := []
  freeCount := 0

end Sys2Proof.Machine
end

