-- ==== Sys2Proof/Machine/Operands.lean ====
section
/-! DEFINITION. Numbers and texts as bytes (R1, R186), the arithmetic of R3, the codes of the enumerations (R170, R190),
and small list helpers. -/

namespace Sys2Proof.Machine

/-! ### Bytes and numbers -/

/-- The little-endian number that a list of bytes spells (R1). -/
def leNat : List Byte → Nat
  | [] => 0
  | b :: bs => b.toNat + 256 * leNat bs

/-- The `n` little-endian bytes of a number; its higher bits are dropped (R1, R186 narrow values). -/
def leBytes : Nat → Nat → List Byte
  | 0, _ => []
  | n + 1, v => BitVec.ofNat 8 v :: leBytes n (v / 256)

/-- The `n` bytes of a signed number, in two's complement. -/
def leIntBytes (n : Nat) (x : Int) : List Byte :=
  leBytes n (x % (256 ^ n : Nat)).toNat

/-- The signed number that `n` bytes hold in two's complement. -/
def signedOf (n v : Nat) : Int :=
  if v < 256 ^ n / 2 then (v : Int) else (v : Int) - (256 ^ n : Nat)

/-- All ones across `n` bytes: the coding of an absent field (R1, R186). -/
def allOnes (n : Nat) : Nat := 256 ^ n - 1

/-- An optional field of `n` bytes: absent when it holds all ones (R186). -/
def optionalField (n v : Nat) : Option Nat := if v = allOnes n then none else some v

/-- The bytes of an optional field: all ones when it is absent (R186, R191). -/
def optionalBytes (n : Nat) (v : Option Nat) : List Byte := leBytes n (v.getD (allOnes n))

/-- The field of `n` bytes at offset `off` of a record. -/
def fieldAt (bs : List Byte) (off n : Nat) : Nat := leNat ((bs.drop off).take n)

/-- Bit `i` of a number. -/
def bitAt (v i : Nat) : Bool := v.testBit i

/-- `clamp(x, a, b)` of R3. -/
def clampNat (x a b : Nat) : Nat := if x < a then a else if b < x then b else x

/-- A text field: its characters up to the first byte below 0x20, or its end (R186). -/
def textOf (bs : List Byte) : List Byte := bs.takeWhile fun b => decide (0x20 ≤ b.toNat)

/-- A text in a field of `n` bytes, padded with zeros (log 15). -/
def textBytes (n : Nat) (t : List Byte) : List Byte := (t ++ List.replicate n 0#8).take n

/-- The digit characters of a number below 10. -/
def digitByte (d : Nat) : Byte := BitVec.ofNat 8 (0x30 + d % 10)

/-- A number in decimal figures without leading zeros, for numbers below 10000. -/
def decimalText (n : Nat) : List Byte :=
  if n < 10 then [digitByte n]
  else if n < 100 then [digitByte (n / 10), digitByte n]
  else if n < 1000 then [digitByte (n / 100), digitByte (n / 10), digitByte n]
  else [digitByte (n / 1000), digitByte (n / 100), digitByte (n / 10), digitByte n]

/-- Two decimal figures. -/
def twoDigits (n : Nat) : List Byte := [digitByte (n / 10), digitByte n]

/-- The colon of hh:mm. -/
def colon : Byte := 0x3A#8

/-- A wall-clock minute shown as hh:mm (R2, R30). -/
def hhmm (w : Nat) : List Byte := twoDigits (w / 60) ++ [colon] ++ twoDigits (w % 60)

/-- A wall time in milliseconds shown as hh:mm:ss (R121). -/
def hhmmss (ms : Nat) : List Byte := hhmm (ms / 60000) ++ [colon] ++ twoDigits (ms / 1000 % 60)

/-- The text "--:--" of a clock record while the clock is UNSET (R121). -/
def unsetClockText : List Byte := [0x2D#8, 0x2D#8, colon, 0x2D#8, 0x2D#8]

/-- The wall-clock minute of a service minute, (m + R) mod 1440 (R2, R30). -/
def wallMinute (m : Int) (rollover : Nat) : Nat := ((m + rollover) % 1440).toNat

/-- The wall time of a station time, (R × 60000 + T) mod 86,400,000 (R2). -/
def wallTime (rollover t : Nat) : Nat := (rollover * 60000 + t) % Config.dayMs

/-- One more, wrapping at 32 bits (R3; of the dropped, superseded and publish counts, log 26). -/
def count32 (n : Nat) : Nat := (n + 1) % Config.countModulus

/-- A sum wrapping at 32 bits (DESIGN CHOICE, log 26). -/
def add32 (a b : Nat) : Nat := (a + b) % Config.countModulus

/-! ### Codes of enumerations -/

/-- Run states in RUNSTAT and the status page (R170, R192). -/
def RunState.code : RunState → Nat
  | .stopped => 0
  | .starting => 1
  | .running => 2
  | .stopping => 3

/-- Clock states (R190). -/
def ClockState.code : ClockState → Nat
  | .unset => 0
  | .holdover => 1
  | .tracking => 2

/-- Contact states (R190). -/
def ContactState.code : ContactState → Nat
  | .unknown => 0
  | .present => 1
  | .absent => 2
  | .fault => 3

/-- Reasons of a refused post (R170). -/
def PostRefusal.code : PostRefusal → Nat
  | .none => 0
  | .full => 1
  | .notRunning => 2
  | .range => 3
  | .stray => 4

/-- Memory fault areas in RUNSTAT (R170). -/
def ReqClass.areaCode : ReqClass → Nat
  | .layout => 1
  | .sheet => 2
  | .name => 3
  | .page => 4
  | .tally => 5
  | .status => 6

/-- The kind index of a cue (R141). -/
def CueKind.index : CueKind → Nat
  | .boarding => 0
  | .closing => 1
  | .platformChange => 2
  | .delay => 3
  | .cancellation => 4
  | .reinstated => 5
  | .notice => 6
  | .departed => 7
  | .retired => 8
  | .contact => 9
  | .clock => 10

/-- Calls are spoken, reports inform the host (R141). -/
def CueKind.isReport : CueKind → Bool
  | .departed | .retired | .contact | .clock => true
  | _ => false

/-- Sub-kinds of CONTACT reports (R190). -/
def contactSubCode : ContactSub → Nat
  | .baseline => 0
  | .edge => 1
  | .fault => 2

/-- Sub-kinds of CLOCK reports (R190). -/
def clockSubCode : ClockSub → Nat
  | .carry => 0
  | .stepped => 1
  | .set => 2
  | .tracking => 3
  | .holdover => 4

/-- The delay field: UNKNOWN is 0xFFFF (Conventions of 00_scope.md). -/
def Delay.field : Delay → Nat
  | .known d => d
  | .unknown => 0xFFFF

/-! ### Lists -/

/-- `x` put before the first element that does not stand before it. -/
def insertBy {α : Type} (before : α → α → Bool) (x : α) : List α → List α
  | [] => [x]
  | y :: ys => if before y x then y :: insertBy before x ys else x :: y :: ys

/-- A list sorted by insertion; elements that neither stands before keep their order. -/
def sortBy {α : Type} (before : α → α → Bool) : List α → List α
  | [] => []
  | x :: xs => insertBy before x (sortBy before xs)

/-- A list without its repeats: each value at its first place. -/
def firstOccurrences : List Nat → List Nat
  | [] => []
  | x :: xs => x :: (firstOccurrences xs).filter fun y => y != x

end Sys2Proof.Machine
end

