-- ==== Sys2Proof/Machine/Ops.lean ====
section
/-! DEFINITION. The named operations over host memory, the blocks of the state, attention and the memory request
arbiter (R169, R175 to R177). -/

namespace Sys2Proof.Machine

/-! ### Host memory: a list of (address, byte) pairs in one canonical form -/

/-- What a byte of host memory that nothing has written reads as: 0. DESIGN CHOICE, unsafe (log 4). -/
def Memory.unwritten : Byte := 0#8

/-- The byte at an address. -/
def Memory.read : List Host.Cell → Nat → Byte
  | [], _ => Memory.unwritten
  | (k, b) :: rest, a => if k = a then b else if a < k then Memory.unwritten else Memory.read rest a

/-- The memory with one byte written. -/
def Memory.write : List Host.Cell → Nat → Byte → List Host.Cell
  | [], a, b => if b = Memory.unwritten then [] else [(a, b)]
  | (k, c) :: rest, a, b =>
    if a < k then
      if b = Memory.unwritten then (k, c) :: rest else (a, b) :: (k, c) :: rest
    else if a = k then
      if b = Memory.unwritten then rest else (k, b) :: rest
    else (k, c) :: Memory.write rest a b

/-- The canonical form: addresses strictly rising from `lo` and below 2^48, no byte equal to what an unlisted address
reads as. -/
def Memory.wfFrom : Nat → List Host.Cell → Bool
  | _, [] => true
  | lo, (k, b) :: rest =>
    decide (lo ≤ k) && decide (k < Config.addrModulus) && decide (b ≠ Memory.unwritten) && Memory.wfFrom (k + 1) rest

/-- The canonical form holds. -/
def Memory.wf (m : List Host.Cell) : Bool := Memory.wfFrom 0 m

/-- An address on the host link: 48 bits (R1, log 7). -/
def linkAddr (a : Nat) : Nat := a % Config.addrModulus

/-- The `n` bytes from an address. -/
def Memory.readBytes (m : List Host.Cell) (a n : Nat) : List Byte :=
  (List.range n).map fun i => Memory.read m (linkAddr (a + i))

/-- The memory with bytes written from an address on. -/
def Memory.writeBytes : List Host.Cell → Nat → List Byte → List Host.Cell
  | m, _, [] => m
  | m, a, b :: bs => Memory.writeBytes (Memory.write m (linkAddr a) b) (a + 1) bs

/-- The memory after a write that met a fault, the `n`-th such: each of its bytes is written or not (log 6). -/
def Memory.writeFaulted (n : Nat) : List Host.Cell → Nat → List Byte → List Host.Cell
  | m, _, [] => m
  | m, a, b :: bs =>
    Memory.writeFaulted n
      (if Config.faultedByteLands n (linkAddr a) then Memory.write m (linkAddr a) b else m) (a + 1) bs

/-! ### Updating one block -/

/-- A change of the Exchange Port alone. -/
def State.onXp (f : XP → XP) (s : State) : State := { s with xp := f s.xp }
/-- A change of the Roster Unit alone. -/
def State.onRu (f : RU → RU) (s : State) : State := { s with ru := f s.ru }
/-- A change of the Platform Unit alone. -/
def State.onPu (f : PU → PU) (s : State) : State := { s with pu := f s.pu }
/-- A change of the Station Clock alone. -/
def State.onSc (f : SC → SC) (s : State) : State := { s with sc := f s.sc }
/-- A change of the Wall Composer alone. -/
def State.onWc (f : WC → WC) (s : State) : State := { s with wc := f s.wc }
/-- A change of the Field Line Unit alone. -/
def State.onFu (f : FU → FU) (s : State) : State := { s with fu := f s.fu }
/-- A change of the Cue Sequencer alone. -/
def State.onCq (f : CQ → CQ) (s : State) : State := { s with cq := f s.cq }
/-- A change of host memory alone. -/
def State.onMem (f : List Host.Cell → List Host.Cell) (s : State) : State := { s with mem := f s.mem }

/-! ### Attention and the run state -/

/-- The bit of a flag in ATTN (R170). -/
def AttnFlag.bit : AttnFlag → BitVec 7
  | .sheetDone => 1#7
  | .cuePage => 2#7
  | .clockEvent => 4#7
  | .contactFault => 8#7
  | .postRefused => 16#7
  | .memoryFault => 32#7
  | .runState => 64#7

/-- An event sets its flag in ATTN, whatever its enable says; a flag already set stays set (R175). -/
def raiseAttn (f : AttnFlag) (s : State) : State := s.onXp fun x => { x with attn := x.attn ||| f.bit }

/-- A transition of the run state, which raises RUN_STATE (R180). -/
def enterRun (r : RunState) (s : State) : State := raiseAttn .runState (s.onXp fun x => { x with run := r })

/-! ### The exchange area (R169) -/

/-- The base address of the exchange area: XBASE holds its bits 47..16. -/
def areaBase (s : State) : Nat := s.xp.xbase.toNat * 65536

/-- The address of sheet slot `n`. -/
def slotAddr (s : State) (n : Nat) : Nat := areaBase s + 0x2000 + 1024 * n

/-- The address of cue page `k`. -/
def pageAddr (s : State) (k : Nat) : Nat := areaBase s + 0x6000 + 4096 * k

/-- The address of the status page in the area at `base`. -/
def statusAddr (base : Nat) : Nat := base + 0xE000

/-! ### Memory requests (R176) -/

/-- The class of an access (R176). -/
def Access.cls : Access → ReqClass
  | .layoutRead => .layout
  | .headerRead | .takenWrite | .unitRead | .resultWrite | .doneWrite => .sheet
  | .nameRead => .name
  | .stateWordRead | .openWrite | .recordWrite | .pageHeaderWrite | .closedWrite => .page
  | .tallyHalfRead | .tallyWordRead | .tallyHalfWrite | .tallyWordWrite => .tally
  | .publishCountWrite | .publishContentWrite => .status

/-- Writes, as against reads. -/
def Access.isWrite : Access → Bool
  | .takenWrite | .resultWrite | .doneWrite | .openWrite | .recordWrite | .pageHeaderWrite | .closedWrite
  | .tallyHalfWrite | .tallyWordWrite | .publishCountWrite | .publishContentWrite => true
  | .layoutRead | .headerRead | .unitRead | .nameRead | .stateWordRead | .tallyHalfRead | .tallyWordRead => false

/-- The writes of which a fault may leave bytes in host memory (log 6): every write but DONE, whose fault leaves the slot
TAKEN in memory (R74, R174). -/
def Access.mayLand (a : Access) : Bool := a.isWrite && decide (a ≠ .doneWrite)

/-- The writes of a state word, whose four bytes are one access (R71, R158, R186). -/
def Access.isStateWord : Access → Bool
  | .takenWrite | .doneWrite | .openWrite | .closedWrite => true
  | .layoutRead | .headerRead | .unitRead | .resultWrite | .nameRead | .stateWordRead | .recordWrite | .pageHeaderWrite
  | .tallyHalfRead | .tallyWordRead | .tallyHalfWrite | .tallyWordWrite | .publishCountWrite | .publishContentWrite => false

/-- The rank of a class, 1 the highest (R176). -/
def ReqClass.rank : ReqClass → Nat
  | .layout => 1
  | .sheet => 2
  | .name => 3
  | .page => 4
  | .tally => 5
  | .status => 6

/-- A read of `n` bytes. -/
def readReq (a : Access) (addr n : Nat) : MemReq := ⟨a, linkAddr addr, n, []⟩

/-- A write of bytes. -/
def writeReq (a : Access) (addr : Nat) (data : List Byte) : MemReq := ⟨a, linkAddr addr, data.length, data⟩

/-- A block makes a request: it starts at once when the link is free and no other request waits, and otherwise it
waits (R176). -/
def request (r : MemReq) (s : State) : State :=
  s.onXp fun x =>
    match x.inFlight, x.waiting with
    | none, [] => { x with inFlight := some ⟨r, s.sc.u⟩ }
    | _, _ => { x with waiting := x.waiting ++ [r] }

/-- The waiting request of the highest rank. -/
def highestRank : List MemReq → Option MemReq
  | [] => none
  | r :: rs =>
    match highestRank rs with
    | none => some r
    | some b => if b.access.cls.rank < r.access.cls.rank then some b else some r

/-- The link becomes free, and the arbiter starts the waiting request of the highest rank (R176). -/
def releaseLink (s : State) : State :=
  s.onXp fun x =>
    match highestRank x.waiting with
    | none => { x with inFlight := none }
    | some r => { x with inFlight := some ⟨r, s.sc.u⟩, waiting := x.waiting.erase r }

/-- A write that the host link has accepted stands in host memory. -/
def landWrite (r : MemReq) (s : State) : State := s.onMem fun m => Memory.writeBytes m r.addr r.data

/-- What a write that met a fault leaves in host memory (log 6): of a state word the value it had or the whole new one (R164,
R186), and of any other write whichever bytes landed. -/
def landFaulted (r : MemReq) (s : State) : State :=
  { s with
    mem :=
      if r.access.isStateWord then
        if Config.faultedWordLands s.freeCount then Memory.writeBytes s.mem r.addr r.data else s.mem
      else Memory.writeFaulted s.freeCount s.mem r.addr r.data
    freeCount := s.freeCount + 1 }

/-- The data of a read that returns (log 5). -/
def readData (r : MemReq) (s : State) : List Byte := Memory.readBytes s.mem r.addr r.len

/-- What the Exchange Port does at a memory fault before it hands the failure over (R177): it raises MEMORY_FAULT and
records the area and the address. -/
def recordFault (r : MemReq) (s : State) : State :=
  raiseAttn .memoryFault
    (s.onXp fun x => { x with faultArea := some r.access.cls, faultAddr := r.addr })

end Sys2Proof.Machine
end

