-- ==== Sys2Proof/Machine/Flags.lean ====
section
/-! DEFINITION. The register window as software reads it (R170, R171, R172), the attention line (R175) and the levels
the part drives on its field lines (R132, R135). -/

namespace Sys2Proof.Machine

/-- The attention line: asserted while a flag is set together with its enable (R175). -/
def attentionLine (s : State) : Bool := (s.xp.attn &&& s.xp.attnen) != 0#7

/-- IDENT: part number and revision (R170). -/
def identValue : Word := 0x0D400011#32

/-- The fields of RUNSTAT at their bits (R170). -/
def runstatValue (x : XP) : Word :=
  BitVec.ofNat 32
    (x.run.code
      + x.postQueue.length % 32 * 2 ^ 2
      + x.faultCode % 16 * 2 ^ 7
      + x.faultIndex % 256 * 2 ^ 11
      + x.refusedSlot % 64 * 2 ^ 19
      + x.refusal.code * 2 ^ 25
      + (x.faultArea.elim 0 ReqClass.areaCode) * 2 ^ 28)

/-- An aligned 32-bit read of the window (R171). -/
def readRegister (s : State) (offset : Nat) : Word :=
  if offset = 0x00 then identValue
  else if offset = 0x04 then s.xp.xbase
  else if offset = 0x0C then runstatValue s.xp
  else if offset = 0x14 then s.xp.attn.zeroExtend 32
  else if offset = 0x18 then s.xp.attnen.zeroExtend 32
  else 0#32

/-- What the part drives on a field line (R131). -/
inductive LineDrive where
  /-- nothing: an input, or an IDLE line -/
  | nothing
  /-- a steady level -/
  | level (high : Bool)
  /-- the signalling of a record, which is the line driver's (R129) -/
  | record (r : Sending)
  /-- in each period of 1 ms high in the given part, in units of 100 ns, and low throughout when there is none (R137) -/
  | periods (high : Option (Nat × Nat))
  deriving DecidableEq, Repr

/-- The level of a STROBE line: active while its pulse end is present (R135). -/
def strobeLevel (activeLow : Bool) (pulseEnd : Option Nat) : Bool := xor pulseEnd.isSome activeLow

/-- What a lane's line carries: the record being sent, and its inactive level, low, while none is (R132; DEDUCED, log 40). -/
def laneDrive (l : Option Lane) : LineDrive :=
  match l.bind (·.sending) with
  | some r => .record r
  | none => .level false

/-- What a line of a dim pair drives: a part of its channel's waveform (R137), or nothing when the channel has none. -/
def dimDrive (part : DimDrive → Option (Nat × Nat)) (d : Option Dim) : LineDrive :=
  match d.bind (·.drive) with
  | some w => .periods (part w)
  | none => .nothing

/-- What the part drives on a field line (R131, R132, R135, R137). The pair of channel k is L(32 + 2k) and
L(33 + 2k). -/
def lineDrive (x : FU) (line : Nat) : LineDrive :=
  match x.lines[line]? with
  | none => .nothing
  | some l =>
    match l.fn with
    | .idle | .contact _ | .mark _ | .analog => .nothing
    | .lane n => laneDrive x.lanes[n]?
    | .strobe activeLow _ => .level (strobeLevel activeLow l.pulseEnd)
    | .dimTrue => dimDrive DimDrive.trueHigh x.dims[(line - 32) / 2]?
    | .dimComp => dimDrive DimDrive.compHigh x.dims[(line - 32) / 2]?

end Sys2Proof.Machine
end

