-- ==== Sys2Proof/Machine/Lanes.lean ====
section
/-! DEFINITION. The lanes of the Field Line Unit: their queues, their transmitters, and the acceptance of records
(R126 to R130). -/

namespace Sys2Proof.Machine

/-- A change of one lane. -/
def onLane (lane : Nat) (f : Lane → Lane) (s : State) : State :=
  s.onFu fun x => { x with lanes := x.lanes.modify lane f }

/-- The sent image of a panel takes a row's content (R112, R126). Rows are numbered from 1. -/
def imageRow (panel row : Nat) (content : Row) (s : State) : State :=
  s.onWc fun x =>
    { x with panels := x.panels.modify panel fun p => { p with image := p.image.set (row - 1) (some content) } }

/-- A line record is accepted: it enters the frame queue, and the panel's sent image takes the row (R127). -/
def acceptRecord (lane : Nat) (r : LineRec) (s : State) : State :=
  imageRow r.panel r.row r.content
    (onLane lane (fun l => { l with frameQueue := l.frameQueue ++ [r] }) s)

/-- An idle transmitter chooses its next record: the head of the clock queue when it holds any, and otherwise the head
of the frame queue, whose place is then taken by the first waiting record (R127, R129). -/
def transmitNext (lane : Nat) (s : State) : State :=
  match s.fu.lanes[lane]? with
  | none => s
  | some l =>
    match l.sending, l.clockQueue, l.frameQueue with
    | some _, _, _ => s
    | none, c :: cs, _ => onLane lane (fun l => { l with clockQueue := cs, sending := some (.clock c) }) s
    | none, [], r :: rs =>
      match l.waiting with
      | [] => onLane lane (fun l => { l with frameQueue := rs, sending := some (.line r) }) s
      | w :: ws =>
        acceptRecord lane w
          (onLane lane (fun l => { l with frameQueue := rs, sending := some (.line r), waiting := ws }) s)
    | none, [], [] => s

/-- The Wall Composer hands a lane a line record: it is accepted when the frame queue holds fewer than 64 records and
no record waits before it, and otherwise it waits (R112, R127). -/
def handRecord (lane : Nat) (r : LineRec) (s : State) : State :=
  match s.fu.lanes[lane]? with
  | none => s
  | some l =>
    if l.waiting = [] ∧ l.frameQueue.length < Config.frameQueueLimit then transmitNext lane (acceptRecord lane r s)
    else onLane lane (fun l => { l with waiting := l.waiting ++ [r] }) s

/-- A clock record replaces the pending record for its panel in place, or is added at the end (R128). -/
def putClockRec (c : ClockRec) (q : List ClockRec) : List ClockRec :=
  if q.any (fun d => d.addr = c.addr) then q.map (fun d => if d.addr = c.addr then c else d) else q ++ [c]

/-- A clock record is put into the clock queue of its lane (R121, R128). -/
def handClock (lane : Nat) (c : ClockRec) (s : State) : State :=
  transmitNext lane (onLane lane (fun l => { l with clockQueue := putClockRec c l.clockQueue }) s)

/-- A clock record for each clock panel, with the text its kind gives it (R121, R126). They are put in panel-table order:
of two clock panels of one lane the spec does not say whose record comes first, at a station second, at the entry to RUNNING
or at STOP (R106 gives that order for frames alone; DESIGN CHOICE, log 43). -/
def handClocks (text : Bool → List Byte) (holdover : Bool) (s : State) : State :=
  s.wc.panels.foldl
    (fun acc p =>
      match p.kind with
      | .clock seconds => handClock p.lane ⟨p.addr, text seconds, holdover⟩ acc
      | _ => acc)
    s

/-- The clock records of a station second or of the entry to RUNNING: the wall time of T, or "--:--" while the clock is
UNSET, with the holdover attribute in HOLDOVER (R121). -/
def clockRecords (s : State) : State :=
  handClocks
    (fun seconds =>
      if s.sc.clock = .unset then unsetClockText
      else if seconds then hhmmss (wallTime s.sc.rollover s.sc.t)
      else hhmm (wallTime s.sc.rollover s.sc.t / 60000))
    (s.sc.clock = .holdover) s

/-- The rows of a panel: a board's rows, 3 for a platform panel, 1 for a strip, none for a clock (R106). -/
def PanelKind.rows : PanelKind → Nat
  | .board cfg => cfg.rows
  | .platform _ => 3
  | .clock _ => 0
  | .strip => 1

/-- A blank row (R126, R127, R184). The spec does not say what fields it has: none, and colour class 0 (DESIGN CHOICE,
log 36). -/
def blankRow : Row := ⟨[], 0⟩

/-- A panel with its place in the panel table. -/
def placedPanels (ps : List Panel) : List (Nat × Panel) := ps.zipIdx.map fun x => (x.2, x.1)

/-- Blank rows for every board, platform and strip panel, and a blank clock record for every clock panel (R126), its
holdover attribute clear in every clock state (DESIGN CHOICE, log 37). All blank rows are handed before the blank clock
records: R126 and R184 name both without an order, which decides what an idle lane sends first (DESIGN CHOICE, log 44). -/
def handBlanks (s : State) : State :=
  handClocks (fun _ => []) false
    ((placedPanels s.wc.panels).foldl
      (fun acc ip =>
        (List.range ip.2.kind.rows).foldl
          (fun acc j => handRecord ip.2.lane ⟨ip.1, ip.2.addr, j + 1, blankRow⟩ acc) acc)
      s)

/-- Every record handed to the lanes has been accepted. -/
def allAccepted (s : State) : Bool := s.fu.lanes.all fun l => l.waiting.isEmpty

/-- A transmission completes: the lane's transmitter is idle and chooses its next record (R129). A lane that sends
nothing has no transmission to complete. -/
def transmissionDone (lane : Nat) (s : State) : State :=
  match s.fu.lanes[lane]? with
  | some l => if l.sending.isSome then transmitNext lane (onLane lane (fun l => { l with sending := none }) s) else s
  | none => s

end Sys2Proof.Machine
end

