-- ==== Sys2Proof/Machine/Names.lean ====
section
/-! DEFINITION. The name cache and the name fetcher (R123 to R125), and the decoding of a name entry (R193, R194). -/

namespace Sys2Proof.Machine

/-- A blank name with no phrase codes (R124). -/
def blankName : NameText := ⟨[], [], []⟩

/-- The phrase codes of an entry: its slots up to the first that holds 0xFFFF (R194). -/
def nameCodes (bs : List Byte) : List Nat :=
  ((List.range 4).map fun i => fieldAt bs (2 * i) 2).takeWhile fun c => c != 0xFFFF

/-- A name entry as the fetcher decodes it: none when it is EMPTY (R193, R194). -/
def decodeName (bs : List Byte) : Option NameText :=
  if fieldAt bs 24 1 = 0 then none
  else some ⟨textOf ((bs.drop 24).take 40), textOf ((bs.drop 8).take 16), nameCodes bs⟩

/-- The copy that the cache holds of an index. -/
def cacheFind (idx : Nat) (c : List NameEntry) : Option NameText := (c.find? fun e => e.idx = idx).map (·.copy)

/-- A hit makes the entry the most recently used (R123). -/
def cacheTouch (idx : Nat) (c : List NameEntry) : List NameEntry :=
  c.filter (fun e => e.idx != idx) ++ c.filter (fun e => e.idx == idx)

/-- A copy is placed as the most recently used entry; when the cache holds 96 entries already, the least recently used
is removed first (R123). -/
def cachePut (idx : Nat) (copy : NameText) (c : List NameEntry) : List NameEntry :=
  let rest := c.filter fun e => e.idx != idx
  (if Config.cacheLimit ≤ rest.length then rest.drop 1 else rest) ++ [⟨idx, copy⟩]

/-- The miss to be read next: one of the Wall Composer's, and otherwise the oldest of the Cue Sequencer's (R124). Of several
of the Wall Composer's, which R124 does not rank, the first of the fetcher's list (DESIGN CHOICE, log 38). -/
def nextMiss (ms : List Miss) : Option Miss :=
  match ms.find? (·.composer) with
  | some m => some m
  | none => ms.head?

/-- The fetcher starts a read for a waiting miss when none is in flight (R124). The entry of index i lies at the name
table origin plus 64 × i. -/
def startFetch (s : State) : State :=
  match s.wc.fetch, nextMiss s.wc.misses with
  | none, some m =>
    request (readReq .nameRead (s.wc.nameOrigin + 64 * m.idx) 64)
      (s.onWc fun x => { x with fetch := some ⟨m, false⟩, misses := x.misses.erase m })
  | _, _ => s

/-- A miss marked with one more asker. -/
def Miss.mark (composer : Bool) (m : Miss) : Miss :=
  if composer then { m with composer := true } else { m with sequencer := true }

/-- The waiting misses with one more: a miss for an index already waiting is served by that index's read (R124). -/
def addMiss (composer : Bool) (idx : Nat) (ms : List Miss) : List Miss :=
  if ms.any (fun m => m.idx = idx) then ms.map fun m => if m.idx = idx then m.mark composer else m
  else ms ++ [⟨idx, composer, !composer⟩]

/-- A block hands the fetcher a miss; one for the index in flight is served by that read (R124), also when a FLUSH_NAMES has
marked that read to be used once (DESIGN CHOICE, log 20), and when the read was started before a START, at the name table of
the old layout (DESIGN CHOICE, log 47). -/
def askName (composer : Bool) (idx : Nat) (s : State) : State :=
  match s.wc.fetch with
  | some f =>
    if f.miss.idx = idx then s.onWc fun x => { x with fetch := some { f with miss := f.miss.mark composer } }
    else s.onWc fun x => { x with misses := addMiss composer idx x.misses }
  | none => startFetch (s.onWc fun x => { x with misses := addMiss composer idx x.misses })

/-- A lookup (R111, R123, R157): an index at or above the name table size is blank and neither looked up nor fetched, a
hit gives the copy and makes it the most recently used, a miss goes to the fetcher. -/
def lookupName (composer : Bool) (idx : Nat) (s : State) : State × Option NameText :=
  if s.wc.nameSize ≤ idx then (s, some blankName)
  else
    match cacheFind idx s.wc.cache with
    | some copy => (s.onWc fun x => { x with cache := cacheTouch idx x.cache }, some copy)
    | none => (askName composer idx s, none)

/-- The result of looking up a list of names in order: the copies had, and the names awaited. -/
structure Lookups where
  state : State
  copies : List (Nat × NameText)
  awaiting : List Nat

/-- The names of a list looked up in order. -/
def lookupNames (composer : Bool) : List Nat → State → Lookups
  | [], s => ⟨s, [], []⟩
  | i :: is, s =>
    let r := lookupName composer i s
    let rest := lookupNames composer is r.1
    match r.2 with
    | some copy => ⟨rest.state, (i, copy) :: rest.copies, rest.awaiting⟩
    | none => ⟨rest.state, rest.copies, i :: rest.awaiting⟩

/-- The copy of an index among copies already had; blank when there is none. -/
def copyOf (copies : List (Nat × NameText)) (idx : Nat) : NameText :=
  ((copies.find? fun c => c.1 = idx).map (·.2)).getD blankName

/-- The frame in flight takes a copy it awaits (R111). -/
def Frame.deliver (idx : Nat) (copy : NameText) (f : Frame) : Frame :=
  if idx ∈ f.awaiting then { f with copies := f.copies ++ [(idx, copy)], awaiting := f.awaiting.filter (· != idx) } else f

/-- The cue being written takes a copy it awaits, for every place that awaits it (R157). -/
def CueWrite.deliver (idx : Nat) (copy : NameText) (w : CueWrite) : CueWrite :=
  if idx ∈ w.awaiting then
    { w with copies := w.copies ++ [(idx, copy)], awaiting := w.awaiting.filter (· != idx) }
  else w

/-- The fetcher's read returns a name, or nothing when the entry is EMPTY or the read failed (R124, R125): the copy goes
to every block that asked; a VALID entry that is not used once is cached; the next waiting miss is read. -/
def nameReturned (result : Option NameText) (s : State) : State :=
  match s.wc.fetch with
  | none => s
  | some f =>
    let copy := result.getD blankName
    startFetch
      ((s.onCq fun x =>
          { x with
            writing := if f.miss.sequencer then x.writing.map (·.deliver f.miss.idx copy) else x.writing }).onWc
        fun x =>
          { x with
            frame := if f.miss.composer then x.frame.map (·.deliver f.miss.idx copy) else x.frame
            cache := if result.isSome && !f.once then cachePut f.miss.idx copy x.cache else x.cache
            fetch := none })

/-- A FLUSH_NAMES takes effect (R125): the named entry, or every entry (`none`), leaves the cache, and the read that the
fetcher has started (R124), when it is for a discarded index, is marked to be used once (log 20). -/
def flushNames (named : Option Nat) (s : State) : State :=
  s.onWc fun x =>
    { x with
      cache := x.cache.filter fun e => !(named.all fun i => e.idx == i)
      fetch := x.fetch.map fun f =>
        if named.all (fun i => f.miss.idx == i) then { f with once := true } else f }

end Sys2Proof.Machine
end

