-- ==== Sys2Proof/Machine/Publish.lean ====
section
/-! DEFINITION. The front and boarding departures of a platform (R10) and the publication of the status page (R178,
R179, R192). -/

namespace Sys2Proof.Machine

/-! ### Departures at a platform -/

/-- BOARDING or CLOSING. -/
def DepState.atGate : DepState → Bool
  | .boarding | .closing => true
  | _ => false

/-- The boarding departure of a platform: the departure assigned to it in BOARDING or CLOSING (R10). -/
def boardingAt (roster : List Departure) (p : Nat) : Option Departure :=
  roster.find? fun d => d.platform = some p && d.state.atGate

/-- The first LISTED departure of a platform in roster order. -/
def firstListedAt (roster : List Departure) (p : Nat) : Option Departure :=
  roster.find? fun d => d.platform = some p && d.state = .listed

/-- The front departure of a platform (R10). -/
def frontAt (roster : List Departure) (p : Nat) : Option Departure :=
  match boardingAt roster p with
  | some d => some d
  | none => firstListedAt roster p

/-- The record of a platform from 1 to 32; out of that range, one with no contact line. -/
def platformRec (s : State) (p : Nat) : PlatformRec :=
  if p = 0 then PlatformRec.reset else s.pu.platforms.getD (p - 1) PlatformRec.reset

/-- A platform number is in service: 1 to the platform count (R53, R80). -/
def inService (s : State) (p : Nat) : Bool := decide (1 ≤ p) && decide (p ≤ s.pu.platformCount)

/-- The closed flag of a platform in a list of flags of platforms 1 to 32. -/
def closedIn (flags : List Bool) (p : Nat) : Bool := if p = 0 then false else flags.getD (p - 1) false

/-- A platform is closed: its flag is set and it is in service (R53). -/
def isClosed (s : State) (p : Nat) : Bool := inService s p && closedIn s.ru.closed p

/-! ### The status page -/

/-- The eight bytes of a platform in the status page (R192); one out of service is published as open, UNKNOWN, with
both ids 0 (R179). -/
def platformStatus (s : State) (p : Nat) : List Byte :=
  if inService s p then
    leBytes 1 (if closedIn s.ru.closed p then 1 else 0)
      ++ leBytes 1 (platformRec s p).contact.code
      ++ leBytes 2 ((frontAt s.ru.roster p).elim 0 (·.id))
      ++ leBytes 2 ((boardingAt s.ru.roster p).elim 0 (·.id))
      ++ leBytes 2 0
  else leBytes 8 0

/-- Bytes 4 to 319 of the status page, as the blocks hold the fields at this moment (R179, R192). -/
def statusContent (s : State) : List Byte :=
  leBytes 1 s.xp.run.code ++ leBytes 1 s.sc.clock.code ++ leBytes 2 s.sc.day
    ++ leBytes 8 s.sc.u ++ leBytes 4 s.sc.t ++ leIntBytes 4 s.sc.slew
    ++ leBytes 4 s.ru.generation ++ leBytes 2 s.ru.roster.length ++ leBytes 1 s.ru.notices.length
    ++ leBytes 1 s.cq.queue.length ++ leBytes 4 s.cq.nextSeq ++ leBytes 4 s.cq.nextPageSeq
    ++ leBytes 4 s.cq.tallyExceptions ++ leBytes 4 s.xp.clampCount ++ leBytes 8 s.xp.faultAddr
    ++ leBytes 8 0
    ++ (List.range 32).flatMap fun i => platformStatus s (i + 1)

/-- A publication begins (R178 steps 1 and 2): the fields are copied, the publish count is raised to an odd value, and
its write is requested. Past 2^32 - 1 the publish count wraps to 0 (DESIGN CHOICE, log 26). -/
def beginPublication (s : State) : State :=
  request (writeReq .publishCountWrite (statusAddr (areaBase s)) (leBytes 4 (count32 s.xp.publishCount)))
    (s.onXp fun x =>
      { x with
        publishCount := count32 x.publishCount
        publication := some ⟨.odd, areaBase s, statusContent s⟩ })

/-- A publication is requested (R178): it begins, or while another is in progress it is wanted. -/
def requestPublication (s : State) : State :=
  match s.xp.publication with
  | some _ => s.onXp fun x => { x with publishWanted := true }
  | none => beginPublication s

/-- A publication ends: a set mark is cleared and a new publication begins (R178). -/
def endPublication (s : State) : State :=
  if s.xp.publishWanted then
    beginPublication (s.onXp fun x => { x with publication := none, publishWanted := false })
  else s.onXp fun x => { x with publication := none }

/-- A publish count write has completed (R178): after the odd count the content is written, as one request of 316 bytes
(DESIGN CHOICE, log 39), and after the even count the publication ends. -/
def publishCountWritten (s : State) : State :=
  match s.xp.publication with
  | none => s
  | some p =>
    match p.phase with
    | .odd =>
      request (writeReq .publishContentWrite (statusAddr p.base + 4) p.content)
        (s.onXp fun x => { x with publication := some { p with phase := .content } })
    | .even => endPublication s
    | .content => s

/-- The content write has completed: the publish count is raised to an even value and written (R178 step 4). -/
def publishContentWritten (s : State) : State :=
  match s.xp.publication with
  | none => s
  | some p =>
    match p.phase with
    | .content =>
      request (writeReq .publishCountWrite (statusAddr p.base) (leBytes 4 (count32 s.xp.publishCount)))
        (s.onXp fun x =>
          { x with publishCount := count32 x.publishCount, publication := some { p with phase := .even } })
    | .odd | .even => s

/-- A write of a publication has failed: the remaining writes are not made, and the publish count is still raised to
the even value (R178). -/
def publicationFailed (s : State) : State :=
  match s.xp.publication with
  | none => s
  | some p =>
    endPublication
      (match p.phase with
       | .even => s
       | _ => s.onXp fun x => { x with publishCount := count32 x.publishCount })

end Sys2Proof.Machine
end

