-- ==== Sys2Proof/Machine/Cues.lean ====
section
/-! DEFINITION. Announcement cues: what a request captures, zones, supersession, the cue queue and drops (R141 to
R152), and the try to open a page that a cue creation tests for (R160). -/

namespace Sys2Proof.Machine

/-! ### Captures -/

/-- What a cue captures of a departure (R144), with the rollover minute as at the creation. -/
def captureDep (rollover : Nat) (d : Departure) : DepCapture where
  id := d.id
  label := d.label
  sched := d.sched
  delay := d.delay
  schedMin := wallMinute d.sched rollover
  expMin :=
    match d.delay with
    | .known m => some (wallMinute (d.sched + m) rollover)
    | .unknown => none
  reason := d.reason
  dest := d.dest
  calls := d.calls

/-- The zone mask bit of platform p, or of the concourse for 0 (R142). -/
def zone (p : Nat) : BitVec 33 := 1#33 <<< p

/-- The bits of a list of zones. -/
def zoneMask (ps : List Nat) : BitVec 33 := ps.foldl (fun m p => m ||| zone p) 0#33

/-- Every platform in service that is not closed (R142). -/
def openPlatforms (s : State) : List Nat :=
  ((List.range 32).map (· + 1)).filter fun p => inService s p && !isClosed s p

/-- The record of a departure id in the roster. -/
def findDep (s : State) (id : Nat) : Option Departure := s.ru.roster.find? fun d => d.id = id

/-- The record of a notice id in the notice table. -/
def findNotice (s : State) (id : Nat) : Option Notice := s.ru.notices.find? fun n => n.id = id

/-- The frame ticket of a cue created now: frames-started + 1, modulo 2^32 (R145, R109). -/
def frameTicket (s : State) : Nat := count32 s.wc.framesStarted

/-- A cue created now, with the values every cue captures (R144). -/
def bareCue (s : State) (kind : CueKind) (priority : Nat) (zones : BitVec 33) (platform : Option Nat) : Cue where
  kind := kind
  priority := priority
  zones := zones
  seq := s.cq.nextSeq
  ticket := frameTicket s
  eligible := false
  platform := platform
  oldPlatform := none
  dep := none
  notice := none
  contact := none
  clock := none

/-- The priority of a kind other than NOTICE (R141). -/
def kindPriority (s : State) (k : CueKind) : Nat := s.cq.priorities.getD k.index 0

/-- A cue about a departure: the concourse and its platform for a call, no zone for a report (R142). -/
def departureCue (s : State) (kind : CueKind) (d : Departure) : Cue :=
  { bareCue s kind (kindPriority s kind)
      (if kind.isReport then 0#33 else zoneMask (0 :: d.platform.toList)) d.platform with
    dep := some (captureDep s.sc.rollover d) }

/-- A PLATFORM_CHANGE cue: the concourse, the new and the old platform and the moved-from list (R142, R144). -/
def platformChangeCue (s : State) (d : Departure) (old new : Nat) : Cue :=
  { bareCue s .platformChange (kindPriority s .platformChange) (zoneMask (0 :: new :: old :: d.movedFrom)) (some new) with
    oldPlatform := some old
    dep := some (captureDep s.sc.rollover d) }

/-- A NOTICE cue (R141, R142, R144); a DEPARTURE scope captures the departure it names. -/
def noticeCue (s : State) (n : Notice) : Cue :=
  let captured : Option NoticeCapture := some ⟨n.id, n.text, n.scope⟩
  match n.scope with
  | .wall => { bareCue s .notice n.priority (zoneMask (0 :: openPlatforms s)) none with notice := captured }
  | .platform p => { bareCue s .notice n.priority (zoneMask [p]) (some p) with notice := captured }
  | .departure id =>
    match findDep s id with
    | some d =>
      { bareCue s .notice n.priority (zoneMask (0 :: d.platform.toList)) d.platform with
        notice := captured
        dep := some (captureDep s.sc.rollover d) }
    | none => { bareCue s .notice n.priority (zoneMask [0]) none with notice := captured }

/-- The departure that a notice names is quiet (R143). -/
def noticeQuiet (s : State) (n : Notice) : Bool :=
  match n.scope with
  | .departure id => (findDep s id).any (·.quiet)
  | _ => false

/-- A call about a departure of the roster that is not quiet (R143). -/
def callOf (s : State) (kind : CueKind) (id : Nat) : Option Cue :=
  match findDep s id with
  | some d => if d.quiet then none else some (departureCue s kind d)
  | none => none

/-- The cue that a request creates, but for the REINSTATED case of R147; none where R143 creates none, and where the
departure or notice is not held. -/
def cueOf (s : State) : CueReq → Option Cue
  | .boarding id => callOf s .boarding id
  | .closing id => callOf s .closing id
  | .delay id => callOf s .delay id
  | .cancellation id => callOf s .cancellation id
  | .reinstated id => callOf s .reinstated id
  | .platformChange id old new =>
    match findDep s id with
    | some d => if d.quiet then none else some (platformChangeCue s d old new)
    | none => none
  | .notice nid =>
    match findNotice s nid with
    | some n => if noticeQuiet s n then none else some (noticeCue s n)
    | none => none
  | .departed id => (findDep s id).map (departureCue s .departed)
  | .retired id => (findDep s id).map (departureCue s .retired)
  | .contact p sub =>
    some { bareCue s .contact (kindPriority s .contact) 0#33 (some p) with
      contact := some ⟨sub, (platformRec s p).contact, s.sc.u⟩ }
  | .clock sub offset =>
    some { bareCue s .clock (kindPriority s .clock) 0#33 none with
      clock := some ⟨sub, s.sc.clock, s.sc.day, s.sc.t, offset⟩ }

/-! ### Supersession -/

/-- A pending call cue that captures one of these departure ids (R146). -/
def isCallOf (ids : List Nat) (c : Cue) : Bool := !c.kind.isReport && c.dep.any fun d => ids.contains d.id

/-- The two cues capture the same departure. -/
def sameDeparture (a b : Cue) : Bool :=
  match a.dep, b.dep with
  | some x, some y => x.id = y.id
  | _, _ => false

/-- The two cues carry the same notice id. -/
def sameNotice (a b : Cue) : Bool :=
  match a.notice, b.notice with
  | some x, some y => x.id = y.id
  | _, _ => false

/-- Kinds of pending cues of the same departure that a new cue of a kind removes (the table of R146). -/
def supersededKind : (new old : CueKind) → Bool
  | .boarding, .boarding => true
  | .closing, .closing => true
  | .platformChange, .platformChange => true
  | .platformChange, .boarding => true
  | .platformChange, .closing => true
  | .delay, .delay => true
  | .cancellation, k => !k.isReport
  | .reinstated, .reinstated => true
  | .notice, .notice => true
  | .departed, .boarding => true
  | .departed, .closing => true
  | _, _ => false

/-- The new cue supersedes the pending one (R146). -/
def supersedes (new old : Cue) : Bool :=
  (sameDeparture new old && supersededKind new.kind old.kind)
    || (decide (new.kind = .notice) && decide (old.kind = .notice) && sameNotice new old)

/-- Pending cues leave the queue and count as superseded (R146, R151); past 2^32 - 1 the count wraps to 0 (DESIGN CHOICE,
log 26). -/
def removeCues (gone : Cue → Bool) (x : CQ) : CQ :=
  { x with
    queue := x.queue.filter fun c => !gone c
    superseded := add32 x.superseded (x.queue.filter gone).length }

/-! ### The queue -/

/-- A new cue stands after every pending cue of the same or a more urgent priority (R149). -/
def insertCue (c : Cue) (q : List Cue) : List Cue := insertBy (fun y x => decide (y.priority ≤ x.priority)) c q

/-- A new cue enters the queue, or a full queue drops one (R149, R150); past 2^32 - 1 the dropped count wraps to 0 (DESIGN
CHOICE, log 26). -/
def enqueueCue (c : Cue) (x : CQ) : CQ :=
  if x.queue.length < Config.cueLimit then { x with queue := insertCue c x.queue }
  else
    match x.queue.getLast? with
    | none => { x with dropped := count32 x.dropped }
    | some last =>
      if c.priority < last.priority then
        { x with queue := insertCue c x.queue.dropLast, dropped := count32 x.dropped }
      else { x with dropped := count32 x.dropped }

/-- A cue is created (R144, R146, R149): it takes the next creation sequence, removes what it supersedes, and enters the
queue. -/
def createCue (c : Cue) (x : CQ) : CQ :=
  let removed := removeCues (supersedes c) { x with nextSeq := count32 x.nextSeq }
  enqueueCue c removed

/-! ### The try to open a page -/

/-- STOPPING has reached its page step (R165). -/
def pageStepReached (s : State) : Bool :=
  decide (s.xp.run = .stopping) && (s.xp.stopStage = some .page || s.xp.stopStage = some .lane)

/-- The conditions of R160 for a try to open the page at the cursor; none is made from the page step of STOPPING on
(R165). -/
def mayTryOpen (s : State) : Bool :=
  s.cq.openPage.isNone && s.cq.attempt != some .reading
    && (s.xp.run = .running || s.xp.run = .stopping) && !pageStepReached s
    && s.cq.queue.any (·.eligible)

/-- The Cue Sequencer tests the conditions and, when they hold, asks for the state word of the page at the cursor; a
retry time that was set is abandoned (R160). -/
def tryOpenPage (s : State) : State :=
  if mayTryOpen s then
    request (readReq .stateWordRead (pageAddr s s.cq.cursor) 4) (s.onCq fun x => { x with attempt := some .reading })
  else s

/-! ### Requests -/

/-- A REINSTATED request that finds a pending CANCELLATION of the departure removes it and creates nothing (R147). -/
def withdrawsCancellation (s : State) (id : Nat) (c : Cue) : Bool :=
  decide (c.kind = .cancellation) && c.dep.any fun d => d.id = id && !((findDep s id).any (·.quiet)) && (findDep s id).isSome

/-- The cues that a request removes without creating one (R147); none for most requests. -/
def removesOnly (s : State) : CueReq → Cue → Bool
  | .reinstated id => withdrawsCancellation s id
  | _ => fun _ => false

/-- The Cue Sequencer takes a cue request (R143, R147). -/
def takeRequest (r : CueReq) (s : State) : State :=
  if s.cq.queue.any (removesOnly s r) then s.onCq (removeCues (removesOnly s r))
  else
    match cueOf s r with
    | none => s
    | some c => tryOpenPage (s.onCq (createCue c))

/-- The Cue Sequencer takes a removal request for departures (R147). -/
def takeRemoval (ids : List Nat) (s : State) : State := s.onCq (removeCues (isCallOf ids))

end Sys2Proof.Machine
end

