-- ==== Sys2Proof/Machine/Phrases.lean ====
section
/-! DEFINITION. The expansion of a cue into phrase codes (R154 to R157) and the bytes of its record (R190, R191). -/

namespace Sys2Proof.Machine

/-- A base and an offset, modulo 65536 (R155). -/
def phraseSum (base offset : Nat) : Nat := (base + offset) % 65536

/-- The codes of a wall-clock minute: hour base + hh, minute base + mm (R155). -/
def timeCodes (x : CQ) (w : Nat) : List Nat := [phraseSum x.hourBase (w / 60), phraseSum x.minuteBase (w % 60)]

/-- The groups of a calling list: one for each name, the "and" code in the group of the last name of two or more
(R155). -/
def callGroups (x : CQ) (copies : List (Nat × NameText)) : List Nat → List (List Nat)
  | [] => []
  | [last] => [(copyOf copies last).codes]
  | [a, last] => [(copyOf copies a).codes, x.andCode.toList ++ (copyOf copies last).codes]
  | a :: b :: c :: rest => (copyOf copies a).codes :: callGroups x copies (b :: c :: rest)

/-- The groups of phrase codes that a template item expands to (R155); an item whose field the cue does not capture
gives no codes (R154). -/
def itemGroups (x : CQ) (copies : List (Nat × NameText)) (c : Cue) : Item → List (List Nat)
  | .literal code => [[code]]
  | .runLabel =>
    match c.dep with
    | some d => [d.label.map fun ch => phraseSum x.charBase (ch.toNat - 0x20)]
    | none => []
  | .dest =>
    match c.dep with
    | some d => [(copyOf copies d.dest).codes]
    | none => []
  | .calls =>
    match c.dep with
    | some d => callGroups x copies d.calls
    | none => []
  | .platform => [c.platform.toList.map (phraseSum x.numberBase)]
  | .oldPlatform => [c.oldPlatform.toList.map (phraseSum x.numberBase)]
  | .schedTime =>
    match c.dep with
    | some d => [timeCodes x d.schedMin]
    | none => []
  | .expTime =>
    match c.dep.bind (·.expMin) with
    | some w => [timeCodes x w]
    | none => []
  | .delayMin =>
    match c.dep.map DepCapture.delay with
    | some (.known m) => [[phraseSum x.numberBase (if m ≤ 99 then m else 100)]]
    | _ => []
  | .reason =>
    match c.dep.bind (·.reason) with
    | some r => [(copyOf copies r).codes]
    | none => []
  | .noticeText =>
    match c.notice with
    | some n => [(copyOf copies n.text).codes]
    | none => []

/-- Groups appended while they fit whole; the flag says that one did not fit (R156). -/
def fitGroups : List (List Nat) → List Nat → List Nat × Bool
  | [], acc => (acc, false)
  | g :: gs, acc => if acc.length + g.length ≤ Config.phraseLimit then fitGroups gs (acc ++ g) else (acc, true)

/-- The template of a cue's kind. -/
def templateOf (x : CQ) (k : CueKind) : List Item := x.templates.getD k.index []

/-- The phrase list of a cue and its TRUNCATED flag (R156), by the template and parameters in force at its write
(R154). -/
def expandCue (x : CQ) (copies : List (Nat × NameText)) (c : Cue) : List Nat × Bool :=
  fitGroups ((templateOf x c.kind).flatMap (itemGroups x copies c)) []

/-- The names that an item looks up (R157). -/
def itemNames (c : Cue) : Item → List Nat
  | .dest => (c.dep.map (·.dest)).toList
  | .calls => (c.dep.map (·.calls)).getD []
  | .reason => (c.dep.bind (·.reason)).toList
  | .noticeText => (c.notice.map (·.text)).toList
  | _ => []

/-- The names of a cue in the order of its template's items and, within CALLS, in list order, a name at every place at
which it stands (R157). -/
def cueNames (x : CQ) (c : Cue) : List Nat := (templateOf x c.kind).flatMap (itemNames c)

/-! ### The cue record -/

/-- Names of 12 bits packed into a number, name k at bits 12k + 11..12k, absent slots all ones (R190, R191). -/
def packCalls : Nat → List Nat → Nat
  | 0, _ => 0
  | n + 1, [] => 0xFFF + 4096 * packCalls n []
  | n + 1, c :: cs => c % 4096 + 4096 * packCalls n cs

/-- Bytes 13 to 59 for a cue that captures a departure (R190). -/
def depBytes (d : DepCapture) : List Byte :=
  leBytes 2 d.id ++ textBytes 8 d.label ++ leIntBytes 2 d.sched ++ leBytes 2 d.delay.field
    ++ leBytes 2 d.schedMin ++ optionalBytes 2 d.expMin ++ optionalBytes 2 d.reason ++ leBytes 2 d.dest
    ++ leBytes 1 d.calls.length ++ leBytes 24 (packCalls 16 d.calls)

/-- Bytes that hold all ones. -/
def onesBytes (n : Nat) : List Byte := List.replicate n 0xFF#8

/-- The departure id field of a cue that captures no departure: the scope value of a NOTICE of DEPARTURE scope stands
there (R190), and otherwise it is absent. -/
def scopeIdBytes (n : Option NoticeCapture) : List Byte :=
  match n with
  | some ⟨_, _, .departure id⟩ => leBytes 2 id
  | _ => onesBytes 2

/-- Bytes 13 to 59: the departure fields, or those of a CONTACT or CLOCK report; what is absent holds all ones (R190,
R191, log 15). -/
def middleBytes (c : Cue) : List Byte :=
  match c.dep, c.contact, c.clock with
  | some d, _, _ => depBytes d
  | none, some k, _ =>
    leBytes 1 (contactSubCode k.sub) ++ leBytes 1 k.state.code ++ leBytes 5 k.time ++ onesBytes 40
  | none, none, some k =>
    leBytes 1 (clockSubCode k.sub) ++ leBytes 1 k.state.code ++ leBytes 2 k.day ++ leBytes 4 k.t
      ++ (match k.offset with
          | some o => leIntBytes 4 o
          | none => onesBytes 4)
      ++ onesBytes 35
  | none, none, none => scopeIdBytes c.notice ++ onesBytes 45

/-- The code of a notice's scope (R190). -/
def Scope.code : Scope → Nat
  | .wall => 1
  | .platform _ => 2
  | .departure _ => 3

/-- Bytes 60 to 63: notice id, scope and text, all ones when the cue captures no notice (R190, R191). -/
def noticeBytes (n : Option NoticeCapture) : List Byte :=
  match n with
  | some n => leBytes 1 n.id ++ leBytes 1 n.scope.code ++ leBytes 2 n.text
  | none => onesBytes 4

/-- The phrase list: 48 slots, 0xFFFF beyond the phrase count (R190, R191). -/
def phraseBytes (codes : List Nat) : List Byte :=
  (codes.flatMap (leBytes 2) ++ onesBytes 96).take 96

/-- The 160 bytes of a cue record (R190, R191). -/
def recordBytes (x : CQ) (copies : List (Nat × NameText)) (c : Cue) : List Byte :=
  let phrases := expandCue x copies c
  leBytes 4 c.seq
    ++ leBytes 1 (c.kind.index + 16 * c.priority + (if c.kind.isReport then 64 else 0) + (if phrases.2 then 128 else 0))
    ++ leBytes 1 phrases.1.length ++ leBytes 5 c.zones.toNat
    ++ optionalBytes 1 c.platform ++ optionalBytes 1 c.oldPlatform
    ++ middleBytes c ++ noticeBytes c.notice ++ phraseBytes phrases.1

end Sys2Proof.Machine
end

