-- ==== Sys2Proof/Machine/Tallies.lean ====
section
/-! DEFINITION. The tally list and the tally updates (R166 to R168). -/

namespace Sys2Proof.Machine

/-- The tally code of a cue: kind × 33 + platform, 0 for none (R166). -/
def tallyCode (c : Cue) : Nat := c.kind.index * 33 + c.platform.getD 0

/-- The halfword address of a code (R166). -/
def tallyHalfAddr (x : CQ) (code : Nat) : Nat := linkAddr (x.tallyOrigin + 2 * code)

/-- The word address of a code (R166). -/
def tallyWordAddr (x : CQ) (code : Nat) : Nat := linkAddr (x.tallyOrigin + 2 * x.tallySize + 4 * code)

/-- The update at the head of the list starts when none is in progress: it reads the halfword (R168). -/
def startTally (s : State) : State :=
  match s.cq.tallyStep, s.cq.tallyList with
  | none, e :: _ =>
    request (readReq .tallyHalfRead e.halfAddr 2) (s.onCq fun x => { x with tallyStep := some .readHalf })
  | _, _ => s

/-- One more tally exception (R166). -/
def tallyException (s : State) : State := s.onCq fun x => { x with tallyExceptions := count32 x.tallyExceptions }

/-- A cue whose record write has completed is added to the tally list (R167). -/
def addTally (c : Cue) (s : State) : State :=
  if s.cq.tallyOrigin = 0 then s
  else if s.cq.tallySize ≤ tallyCode c then tallyException s
  else if Config.tallyLimit ≤ s.cq.tallyList.length then tallyException s
  else
    startTally
      (s.onCq fun x =>
        { x with
          tallyList := x.tallyList ++ [⟨tallyCode c, tallyHalfAddr x (tallyCode c), tallyWordAddr x (tallyCode c)⟩] })

/-- The update in progress ends: its entry leaves the list and the next one starts (R168). -/
def endTally (s : State) : State :=
  startTally (s.onCq fun x => { x with tallyList := x.tallyList.drop 1, tallyStep := none })

/-- The halfword has been read (R168 steps 1 to 3). -/
def tallyHalfRead (h : Nat) (s : State) : State :=
  match s.cq.tallyStep, s.cq.tallyList with
  | some .readHalf, e :: _ =>
    if h = 65535 then
      request (readReq .tallyWordRead e.wordAddr 4) (s.onCq fun x => { x with tallyStep := some .readWord })
    else
      request (writeReq .tallyHalfWrite e.halfAddr (leBytes 2 (h + 1)))
        (s.onCq fun x => { x with tallyStep := some (.writeHalf none) })
  | _, _ => s

/-- The word has been read: the halfword is written, wrapped to 0 (R168 step 3). -/
def tallyWordRead (w : Nat) (s : State) : State :=
  match s.cq.tallyStep, s.cq.tallyList with
  | some .readWord, e :: _ =>
    request (writeReq .tallyHalfWrite e.halfAddr (leBytes 2 0))
      (s.onCq fun x => { x with tallyStep := some (.writeHalf (some w)) })
  | _, _ => s

/-- The halfword has been written: the word follows when a carry is due (R168 step 4). -/
def tallyHalfWritten (s : State) : State :=
  match s.cq.tallyStep, s.cq.tallyList with
  | some (.writeHalf (some w)), e :: _ =>
    request (writeReq .tallyWordWrite e.wordAddr (leBytes 4 (count32 w)))
      (s.onCq fun x => { x with tallyStep := some .writeWord })
  | some (.writeHalf none), _ => endTally s
  | _, _ => s

/-- The word has been written, which ends the update (R168). -/
def tallyWordWritten (s : State) : State :=
  match s.cq.tallyStep with
  | some .writeWord => endTally s
  | _ => s

/-- An access of the update has failed: it is an exception, and the update ends (R168). -/
def tallyFailed (s : State) : State := endTally (tallyException s)

end Sys2Proof.Machine
end

