-- ==== Sys2Proof/Machine/Pages.lean ====
section
/-! DEFINITION. The writer and the cue pages: opening, writing, closing, write faults (R152, R153, R158 to R165), and
the strobe pulses of a page close (R135). -/

namespace Sys2Proof.Machine

/-- No close cause noted. -/
def CloseCauses.none : CloseCauses := ⟨false, false, false, false⟩

/-- Some close cause holds. -/
def CloseCauses.any (c : CloseCauses) : Bool := c.full || c.urgent || c.hold || c.stop

/-- The close flags of the page header (R190). -/
def CloseCauses.flags (c : CloseCauses) : Nat :=
  (if c.full then 1 else 0) + (if c.urgent then 2 else 0) + (if c.hold then 4 else 0) + (if c.stop then 8 else 0)

/-! ### The writer -/

/-- When every name of the cue has been answered and the OPEN write is done, its record is written, as one request
(R157, R160, R191). -/
def progressWrite (s : State) : State :=
  match s.cq.writing, s.cq.openPage with
  | some w, some p =>
    if w.awaiting = [] ∧ w.requested = false ∧ p.phase = .filling then
      request (writeReq .recordWrite (pageAddr s p.page + 64 + 160 * w.record) (recordBytes s.cq w.copies w.cue))
        (s.onCq fun x => { x with writing := some { w with requested := true } })
    else s
  | _, _ => s

/-- The first eligible cue in queue order leaves the queue into the open page, whose count rises, and its names are
looked up (R153, R157, R161). -/
def takeFirstEligible (s : State) : State :=
  match s.cq.openPage, s.cq.queue.find? (·.eligible) with
  | some p, some c =>
    let looked :=
      lookupNames false (cueNames s.cq c)
        (s.onCq fun x =>
          { x with queue := x.queue.erase c, openPage := some { p with count := p.count + 1 } })
    progressWrite
      (looked.state.onCq fun x =>
        { x with writing := some ⟨c, p.count, looked.copies, looked.awaiting, false⟩ })
  | _, _ => s

/-- The writer may take a cue: a page is open with no close begun, no write is in progress, and the part is RUNNING, or
STOPPING before its page step (R153, R163). -/
def mayTakeCue (s : State) : Bool :=
  s.cq.openPage.any (fun p => decide (p.phase = .filling)) && s.cq.writing.isNone
    && (s.xp.run = .running || s.xp.run = .stopping) && !pageStepReached s

/-- The writer takes the next eligible cue when it may (R153). -/
def writerTest (s : State) : State := if mayTakeCue s then takeFirstEligible s else s

/-! ### Closing -/

/-- Header bytes 4 to 63 of a closing page (R163, R190, R191). -/
def headerBytes (p : OpenPage) (dropped superseded : Nat) : List Byte :=
  leBytes 1 p.count ++ leBytes 1 p.causes.flags ++ leBytes 2 0 ++ leBytes 4 p.seq ++ leBytes 4 dropped
    ++ leBytes 4 superseded ++ leBytes 44 0

/-- The close of the open page begins with the causes noted (R163 steps 1 and 2). -/
def beginClose (causes : CloseCauses) (s : State) : State :=
  match s.cq.openPage with
  | none => s
  | some p =>
    let q : OpenPage := { p with causes := causes, phase := .closing s.cq.dropped s.cq.superseded }
    request (writeReq .pageHeaderWrite (pageAddr s p.page + 4) (headerBytes q s.cq.dropped s.cq.superseded))
      (s.onCq fun x => { x with openPage := some q, dropped := 0, superseded := 0 })

/-- The header has been written; CLOSED follows (R163 step 3). -/
def pageHeaderWritten (s : State) : State :=
  match s.cq.openPage with
  | none => s
  | some p => request (writeReq .closedWrite (pageAddr s p.page) (leBytes 4 2)) s

/-- Every STROBE line goes to its active level, with its pulse end at U plus its width (R135). -/
def pulseStrobes (s : State) : State :=
  s.onFu fun x =>
    { x with
      lines := x.lines.map fun l =>
        match l.fn with
        | .strobe _ width => { l with pulseEnd := some (s.sc.u + width) }
        | _ => l }

/-- The cursor advances, from 7 to 0, and no page is open (R163 step 4, R164 step 5). -/
def advanceCursor (x : CQ) : CQ := { x with cursor := (x.cursor + 1) % 8, openPage := none }

/-- CLOSED has been written: CUE_PAGE, the strobes, the cursor, and a try of the next page (R163 steps 4 and 5). -/
def pageClosed (s : State) : State :=
  tryOpenPage ((pulseStrobes (raiseAttn .cuePage s)).onCq advanceCursor)

/-- A cue record write completes (R161, R162): the cue is added to the tally list, the first-cue time is set, and the
page closes for the causes that now hold, or the next eligible cue is taken. -/
def recordWritten (s : State) : State :=
  match s.cq.writing, s.cq.openPage with
  | some w, some p =>
    let first := p.firstCue.getD s.sc.u
    let causes : CloseCauses :=
      { full := decide (Config.pageCues ≤ p.count)
        urgent := decide (w.cue.priority = 0)
        hold := p.causes.hold || decide (first + s.cq.holdTime ≤ s.sc.u)
        stop := pageStepReached s }
    let s1 :=
      addTally w.cue
        (s.onCq fun x => { x with writing := none, openPage := some { p with firstCue := some first } })
    if causes.any then beginClose causes s1 else writerTest s1
  | _, _ => s

/-- U reaches the first-cue time plus the hold time (R162): the page closes with cause HOLD, after a write in
progress. -/
def holdExpired (s : State) : State :=
  match s.cq.openPage with
  | none => s
  | some p =>
    match p.phase, p.firstCue with
    | .filling, some first =>
      if first + s.cq.holdTime ≤ s.sc.u then
        if s.cq.writing.isSome then
          s.onCq fun x => { x with openPage := some { p with causes := { p.causes with hold := true } } }
        else beginClose { p.causes with hold := true } s
      else s
    | _, _ => s

/-! ### Opening -/

/-- The page at the cursor opens (R160): it takes the next page sequence, OPEN is written, and the first eligible cue is
taken. -/
def openAtCursor (s : State) : State :=
  takeFirstEligible
    (request (writeReq .openWrite (pageAddr s s.cq.cursor) (leBytes 4 1))
      (s.onCq fun x =>
        { x with
          openPage := some ⟨x.cursor, x.nextPageSeq, 0, none, CloseCauses.none, .opening⟩
          nextPageSeq := count32 x.nextPageSeq }))

/-- A retry time is set at U + 250 (R160); from the page step of STOPPING on none is (R165). -/
def setRetry (s : State) : State :=
  s.onCq fun x =>
    { x with attempt := if pageStepReached s then none else some (.retry (s.sc.u + Config.pageRetryMs)) }

/-- The state word of the page at the cursor returns (R160). -/
def stateWordReturned (word : Nat) (s : State) : State :=
  if word = 0 then
    if s.cq.queue.any (·.eligible) then openAtCursor (s.onCq fun x => { x with attempt := none })
    else s.onCq fun x => { x with attempt := none }
  else setRetry s

/-- OPEN has been written into the page that opens; the record of the taken cue follows (R160). -/
def openWritten (s : State) : State :=
  match s.cq.openPage with
  | none => s
  | some p =>
    if p.phase = .opening then
      progressWrite (s.onCq fun x => { x with openPage := some { p with phase := .filling } })
    else s

/-- The retry time is reached (R160). -/
def retryReached (s : State) : State :=
  match s.cq.attempt with
  | some (.retry at_) =>
    if at_ ≤ s.sc.u then tryOpenPage (s.onCq fun x => { x with attempt := none }) else s
  | _ => s

/-! ### Faults and frame completions -/

/-- The counts that a fault during a close adds back (R164 step 4). -/
def takenCounts : PagePhase → Nat × Nat
  | .closing d k => (d, k)
  | _ => (0, 0)

/-- A page write fault (R164): the page is abandoned, its cues count as dropped, the cursor advances and the next page
is tried. The counts wrap past 2^32 - 1 (DESIGN CHOICE, log 26). -/
def pageWriteFault (s : State) : State :=
  match s.cq.openPage with
  | none => s
  | some p =>
    tryOpenPage
      (s.onCq fun x =>
        advanceCursor
          { x with
            writing := none
            dropped := add32 (add32 x.dropped p.count) (takenCounts p.phase).1
            superseded := add32 x.superseded (takenCounts p.phase).2 })

/-- The Cue Sequencer learns that a frame has completed: cues whose ticket is reached become eligible (R152), the writer
takes a cue (R153), or a page is tried (R160). -/
def framesReached (s : State) : State :=
  tryOpenPage
    (writerTest
      (s.onCq fun x =>
        { x with
          queue := x.queue.map fun c =>
            if c.ticket = s.wc.framesCompleted then { c with eligible := true } else c }))

end Sys2Proof.Machine
end

