-- ==== Sys2Proof/Machine/Rows.lean ====
section
/-! DEFINITION. What each panel shows of a snapshot, as rows whose texts still name their names (R105, R106, R115 to
R120, R122), and the rows with their texts (R111, R124). -/

namespace Sys2Proof.Machine

/-- A part of a field's text: given characters, the display text of a name, or its short text. -/
inductive Piece where
  | lit (text : List Byte)
  | name (idx : Nat)
  | short (idx : Nat)
  deriving DecidableEq, Repr

/-- A field before its names are known: its parts, one after another (log 14), and the flash attribute. -/
structure SymField where
  pieces : List Piece
  flash : Bool
  deriving DecidableEq, Repr

/-- A row before its names are known. -/
structure SymRow where
  fields : List SymField
  colour : Nat
  deriving DecidableEq, Repr

/-- A field without flash. -/
def plainField (ps : List Piece) : SymField := ⟨ps, false⟩

/-- A row of fields without flash and of colour class 0. The spec gives a colour class for departure rows of a board alone
(R118); notice rows, rows of platform panels and strips carry 0 (DESIGN CHOICE, log 36). -/
def plainRow (fs : List (List Piece)) : SymRow := ⟨fs.map plainField, 0⟩

/-- A fixed text; none after reset (R107). -/
def fixedText (t : Option Nat) : List Piece := t.toList.map .name

/-! ### Times of a departure -/

/-- The expected minute E: S + D when D is known (R5). -/
def expectedMinute (sched : Int) (delay : Delay) : Option Int :=
  match delay with
  | .known m => some (sched + m)
  | .unknown => none

/-- The sort key K: E when D is known, and S when it is UNKNOWN (R5). -/
def sortKey (sched : Int) (delay : Delay) : Int := (expectedMinute sched delay).getD sched

/-- The countdown C: E × 60000 − T when the clock is not UNSET and D is not UNKNOWN (R5, R29). -/
def countdownOf (clock : ClockState) (t : Nat) (sched : Int) (delay : Delay) : Option Int :=
  if clock = .unset then none else (expectedMinute sched delay).map fun e => e * 60000 - t

/-- The minutes to go that a platform panel shows, (C + 59999) div 60000 when it lies in 1..99 (R29, R119). -/
def minutesToGo (c : Option Int) : Option Nat :=
  match c with
  | some c =>
    let n := (c + 59999) / 60000
    if 1 ≤ n ∧ n ≤ 99 then some n.toNat else none
  | none => none

/-! ### The snapshot's departures and notices -/

/-- The front departure of a platform in a snapshot (R10, R110). -/
def Snapshot.front (sn : Snapshot) (p : Nat) : Option SnapDep :=
  match sn.deps.find? fun d => d.platform = some p && d.state.atGate with
  | some d => some d
  | none => sn.deps.find? fun d => d.platform = some p && d.state = .listed

/-- The WALL notices in table order. -/
def Snapshot.wallNotices (sn : Snapshot) : List SnapNotice := sn.notices.filter fun n => n.scope = .wall

/-- The hh:mm of a departure's scheduled wall minute (R30). -/
def Snapshot.schedText (sn : Snapshot) (d : SnapDep) : List Piece := [.lit (hhmm (wallMinute d.sched sn.rollover))]

/-- The status of a departure (R118). -/
def Snapshot.status (sn : Snapshot) (tx : FixedTexts) (d : SnapDep) : List Piece :=
  match d.state, d.delay with
  | .cancelled, _ => fixedText tx.cancelled
  | .departed, _ => fixedText tx.departed
  | _, .unknown => fixedText tx.delayed
  | .closing, _ => fixedText tx.closing
  | .boarding, _ => fixedText tx.boarding
  | .listed, .known m =>
    if 1 ≤ m then fixedText tx.expected ++ [.lit (hhmm (wallMinute (d.sched + m) sn.rollover))]
    else fixedText tx.onTime

/-! ### Boards -/

/-- A departure is a candidate of a board (R115). -/
def Snapshot.candidate (sn : Snapshot) (b : BoardCfg) (d : SnapDep) : Bool :=
  (match d.platform with
   | some p => decide (1 ≤ p) && b.platformMask.getLsbD (p - 1)
   | none => b.unassigned)
    && b.kindMask.getLsbD d.kind
    && (decide (sn.clock = .unset)
      || decide (sortKey d.sched d.delay - ((sn.t / 60000 : Nat) : Int) ≤ (b.horizon : Int)))

/-- The candidates of a board in roster order (R115). -/
def Snapshot.candidates (sn : Snapshot) (b : BoardCfg) : List SnapDep := sn.deps.filter (sn.candidate b)

/-- r: the departure rows of a board (R116). -/
def BoardCfg.depRows (b : BoardCfg) : Nat := if b.noticeRow then b.rows - 1 else b.rows

/-- F: the fixed rows, clamped to r (R116). -/
def BoardCfg.fixedRows (b : BoardCfg) : Nat := if b.depRows < b.fixed then b.depRows else b.fixed

/-- q: the paged rows (R116). -/
def BoardCfg.pagedRows (b : BoardCfg) : Nat := b.depRows - b.fixedRows

/-- The number of pages of a board with `m` candidates (R116). -/
def BoardCfg.pages (b : BoardCfg) (m : Nat) : Nat :=
  if b.pagedRows = 0 ∨ m ≤ b.fixedRows then 1
  else (m - b.fixedRows + (b.pagedRows - 1)) / b.pagedRows

/-- The page index and last-advance time of a board after a snapshot (R117). -/
def advancePage (b : BoardCfg) (m u page last : Nat) : Nat × Nat :=
  let page1 := if b.pages m ≤ page then 0 else page
  if last + b.dwell * 1000 ≤ u then ((if b.pages m ≤ page1 + 1 then 0 else page1 + 1), u) else (page1, last)

/-- A departure row of a board (R118). -/
def Snapshot.boardRow (sn : Snapshot) (tx : FixedTexts) (colours : List Nat) (d : SnapDep) : SymRow where
  fields :=
    [plainField (sn.schedText d), plainField [.name d.dest],
     ⟨d.platform.toList.map fun p => .lit (decimalText p), !d.movedFrom.isEmpty⟩,
     plainField (sn.status tx d)]
  colour := colours.getD d.kind d.kind

/-- A blank departure row: every field blank, colour class 0 (R118). -/
def blankDepRow : SymRow := plainRow [[], [], [], []]

/-- The departure row `j`, from 0, of a board: candidate j for a fixed row, and for a paged row the candidate of the
page (R116). -/
def BoardCfg.candidateAt (b : BoardCfg) (page j : Nat) : Nat :=
  if j < b.fixedRows then j else b.fixedRows + page * b.pagedRows + (j - b.fixedRows)

/-- The rows of a board (R105, R116, R118). -/
def Snapshot.boardRows (sn : Snapshot) (tx : FixedTexts) (colours : List Nat) (b : BoardCfg) (page : Nat) : List SymRow :=
  ((List.range b.depRows).map fun j =>
      match (sn.candidates b)[b.candidateAt page j]? with
      | some d => sn.boardRow tx colours d
      | none => blankDepRow)
    ++ (if b.noticeRow then [plainRow [(sn.wallNotices.head?.map fun n => Piece.name n.text).toList]] else [])

/-! ### Platform panels -/

/-- The countdown field: the figure n followed by the minutes text, or the status (R119). -/
def Snapshot.countdownField (sn : Snapshot) (tx : FixedTexts) (d : SnapDep) : List Piece :=
  match minutesToGo (countdownOf sn.clock sn.t d.sched d.delay) with
  | some n => .lit (decimalText n) :: fixedText tx.minutes
  | none => sn.status tx d

/-- The three fields of a departure on a platform panel (R119). -/
def Snapshot.panelDepRow (sn : Snapshot) (tx : FixedTexts) (d : SnapDep) : SymRow :=
  plainRow [sn.schedText d, [.short d.dest], sn.countdownField tx d]

/-- Texts with a separator between each two (R120, R122). -/
def separated (sep : List Piece) : List Nat → List Piece
  | [] => []
  | [i] => [.name i]
  | i :: j :: rest => .name i :: (sep ++ separated sep (j :: rest))

/-- Row 2 of a platform panel (R120). -/
def Snapshot.row2 (sn : Snapshot) (tx : FixedTexts) (p : Nat) : SymRow :=
  match sn.front p with
  | none => plainRow [[]]
  | some d =>
    match sn.notices.find? fun n => n.scope = .departure d.id with
    | some n => plainRow [[.name n.text]]
    | none => plainRow [separated (fixedText tx.separator) d.calls]

/-- The first PLATFORM notice for a platform among those of some priorities. -/
def Snapshot.platformNotice (sn : Snapshot) (p : Nat) (want : Nat → Bool) : Option SnapNotice :=
  sn.notices.find? fun n => n.scope = .platform p && want n.priority

/-- Row 3 of a platform panel (R120): a redirect, a notice, the next departure, or blank. -/
def Snapshot.row3 (sn : Snapshot) (tx : FixedTexts) (p : Nat) : SymRow :=
  match sn.deps.find? fun d => d.movedFrom.contains p with
  | some d =>
    plainRow [sn.schedText d, [.short d.dest], fixedText tx.platformWord,
      d.platform.toList.map fun q => .lit (decimalText q)]
  | none =>
    match sn.platformNotice p fun pr => pr != 0 with
    | some n => plainRow [[.name n.text]]
    | none =>
      match sn.deps.find? fun d =>
          d.platform = some p && d.state = .listed && ((sn.front p).map (·.id) != some d.id) with
      | some d => sn.panelDepRow tx d
      | none => plainRow [[]]

/-- Row 1 of a platform panel (R119). -/
def Snapshot.row1 (sn : Snapshot) (tx : FixedTexts) (p : Nat) : SymRow :=
  match sn.front p with
  | some d => sn.panelDepRow tx d
  | none => plainRow [fixedText tx.noDepartures]

/-- The rows of a platform panel (R105, R119, R120). -/
def Snapshot.platformRows (sn : Snapshot) (tx : FixedTexts) (p : Nat) : List SymRow :=
  if sn.closed.contains p then List.replicate 3 (plainRow [fixedText tx.closedText])
  else
    match sn.platformNotice p fun pr => pr == 0 with
    | some n => List.replicate 3 (plainRow [[.name n.text]])
    | none => [sn.row1 tx p, sn.row2 tx p, sn.row3 tx p]

/-! ### All panels -/

/-- The rows of a panel (R105, R106, R122); a clock panel has none in frames. -/
def Snapshot.panelRows (sn : Snapshot) (tx : FixedTexts) (colours : List Nat) (p : Panel) : List SymRow :=
  match p.kind with
  | .board b => sn.boardRows tx colours b p.page
  | .platform n => sn.platformRows tx n
  | .clock _ => []
  | .strip => [plainRow [separated (fixedText tx.separator) (sn.wallNotices.map (·.text))]]

/-- The name index of a part, if it has one. -/
def Piece.nameIdx : Piece → Option Nat
  | .lit _ => none
  | .name i => some i
  | .short i => some i

/-- The names that rows use, in row order and field order, each once (R110, R111, log 13). -/
def rowNames (rows : List SymRow) : List Nat :=
  firstOccurrences (rows.flatMap fun r => r.fields.flatMap fun f => f.pieces.filterMap Piece.nameIdx)

/-- The short text of a name: when it is empty, the first 16 characters of the display text (R120). -/
def NameText.shortText (n : NameText) : List Byte := if n.short.isEmpty then n.display.take 16 else n.short

/-- The text of a part (R111, R124). -/
def Piece.text (copies : List (Nat × NameText)) : Piece → List Byte
  | .lit t => t
  | .name i => (copyOf copies i).display
  | .short i => (copyOf copies i).shortText

/-- A row with its texts. -/
def SymRow.resolve (copies : List (Nat × NameText)) (r : SymRow) : Row where
  fields := r.fields.map fun f => ⟨f.pieces.flatMap (Piece.text copies), f.flash⟩
  colour := r.colour

end Sys2Proof.Machine
end

