-- ==== Sys2Proof/Machine/Frames.lean ====
section
/-! DEFINITION. Frames: requests, SNAPSHOT, NAMES, EMIT and completion (R108 to R114, R117). -/

namespace Sys2Proof.Machine

/-- What a snapshot copies of a departure (R110). -/
def snapDep (d : Departure) : SnapDep where
  id := d.id
  kind := d.kind
  sched := d.sched
  delay := d.delay
  state := d.state
  platform := d.platform
  movedFrom := d.movedFrom
  dest := d.dest
  calls := d.calls

/-- The snapshot of the part as it stands (R110). -/
def takeSnapshot (s : State) : Snapshot where
  deps := s.ru.roster.map snapDep
  notices := s.ru.notices.map fun n => ⟨n.id, n.scope, n.priority, n.text⟩
  closed := ((List.range 32).map (· + 1)).filter fun p => isClosed s p
  u := s.sc.u
  t := s.sc.t
  rollover := s.sc.rollover
  clock := s.sc.clock

/-- The page of each board is decided at the snapshot (R117). -/
def turnPages (sn : Snapshot) (ps : List Panel) : List Panel :=
  ps.map fun p =>
    match p.kind with
    | .board b =>
      let next := advancePage b (sn.candidates b).length sn.u p.page p.lastAdvance
      { p with page := next.1, lastAdvance := next.2 }
    | _ => p

/-- The rows of every panel in panel-table order. -/
def wallRows (x : WC) (sn : Snapshot) : List SymRow := x.panels.flatMap fun p => sn.panelRows x.texts x.colours p

/-- Row `j`, from 0, of the panel at a place of the table is handed to its lane when it differs from the sent image or
the frame is a full refresh (R112). -/
def emitRow (full : Bool) (copies : List (Nat × NameText)) (i : Nat) (p : Panel) (jr : Nat × SymRow) (s : State) :
    State :=
  let content := jr.2.resolve copies
  if full || p.image[jr.1]? != some (some content) then handRecord p.lane ⟨i, p.addr, jr.1 + 1, content⟩ s else s

/-- EMIT (R112): each panel's rows are built, and those to be sent are handed to the lanes in panel-table order and row
order. -/
def emitRows (s : State) : State :=
  match s.wc.frame with
  | none => s
  | some f =>
    (placedPanels s.wc.panels).foldl
      (fun acc ip =>
        ((f.snap.panelRows s.wc.texts s.wc.colours ip.2).zipIdx.map fun x => (x.2, x.1)).foldl
          (fun acc jr => emitRow f.full f.copies ip.1 ip.2 jr acc) acc)
      (s.onWc fun x => { x with frame := some { f with emitting := true } })

/-- The NAMES phase is over when the frame awaits no name; EMIT then follows (R111, R112). -/
def progressNames (s : State) : State :=
  match s.wc.frame with
  | some f => if f.emitting = false ∧ f.awaiting = [] then emitRows s else s
  | none => s

/-- SNAPSHOT (R110, R117) and the lookups of NAMES (R111): frames-started increases, the copy is taken, the pages are
decided, and the names of the rows are looked up in order. -/
def startFrame (s : State) : State :=
  let sn := takeSnapshot s
  let number := count32 s.wc.framesStarted
  let s1 :=
    s.onWc fun x =>
      { x with framesStarted := number, lastSnapshot := some s.sc.u, panels := turnPages sn x.panels }
  let looked := lookupNames true (rowNames (wallRows s1.wc sn)) s1
  progressNames
    (looked.state.onWc fun x =>
      { x with
        frame :=
          some ⟨number, decide (number % x.refreshCount = 0), sn, looked.copies, looked.awaiting, false⟩ })

/-- The frame has emitted, and every record handed has been accepted (R113). -/
def frameDone (s : State) : Bool := s.wc.frame.any (·.emitting) && allAccepted s

/-- The completion of a frame (R113 steps 1 to 3): frames-completed rises, the status page is published, and the Cue
Sequencer is told. -/
def completeFrame (s : State) : State :=
  framesReached
    (requestPublication
      (s.onWc fun x => { x with frame := none, framesCompleted := count32 x.framesCompleted }))

/-- A frame that is done completes; with the frame-wanted mark set in RUNNING the mark is cleared and the next frame
starts (R108, R113 step 4), which completes in turn when it is done at once. No mark is set during this. -/
def progressFrame (s : State) : State :=
  if frameDone s then
    let c := completeFrame s
    if c.wc.frameWanted ∧ c.xp.run = .running then
      let n := startFrame (c.onWc fun x => { x with frameWanted := false })
      if frameDone n then completeFrame n else n
    else c
  else s

/-- A frame request (R108): in RUNNING it starts a frame when none is in flight, and otherwise sets the frame-wanted
mark; in other run states it passes without effect. -/
def requestFrame (s : State) : State :=
  if s.xp.run = .running then
    match s.wc.frame with
    | some _ => s.onWc fun x => { x with frameWanted := true }
    | none => progressFrame (startFrame s)
  else s

end Sys2Proof.Machine
end

