-- ==== Sys2Proof/Machine/Roster.lean ====
section
/-! DEFINITION. The Roster Unit's own transitions: evaluation, contact edges, removals, day carry, the ends of flashes,
and the expiry and repeats of notices (R6, R7, R13 to R27, R64, R67, R98 to R102). -/

namespace Sys2Proof.Machine

/-- One departure of the roster is changed, in its place. -/
def setDep (id : Nat) (f : Departure → Departure) (s : State) : State :=
  s.onRu fun x => { x with roster := x.roster.map fun d => if d.id = id then f d else d }

/-- The countdown C of a departure; none while it is not known (R5, R29). -/
def countdown (s : State) (d : Departure) : Option Int := countdownOf s.sc.clock s.sc.t d.sched d.delay

/-- The countdown is known and at most a number of milliseconds. -/
def knownAtMost (c : Option Int) (limit : Int) : Bool := c.any fun c => decide (c ≤ limit)

/-- The countdown is known and above a number of milliseconds. -/
def knownAbove (c : Option Int) (limit : Int) : Bool := c.any fun c => decide (limit < c)

/-- The platform's contact is usable (R14). -/
def contactUsable (s : State) (p : Nat) : Bool :=
  (platformRec s p).line.isSome
    && (decide ((platformRec s p).contact = .present) || decide ((platformRec s p).contact = .absent))

/-! ### Transitions -/

/-- A departure takes a state, with the state stamp at the current U (R7). -/
def enterState (st : DepState) (id : Nat) (s : State) : State :=
  setDep id (fun d => { d with state := st, stamp := s.sc.u }) s

/-- LISTED → BOARDING (R15), with the boarding call of R7. -/
def promote (d : Departure) (s : State) : State :=
  let s1 := enterState .boarding d.id s
  if d.boardingCalled = d.platform then s1
  else takeRequest (.boarding d.id) (setDep d.id (fun e => { e with boardingCalled := d.platform }) s1)

/-- BOARDING → CLOSING (R16), with the closing call of R7. -/
def beginClosing (d : Departure) (s : State) : State :=
  let s1 := enterState .closing d.id s
  if d.closingCalled then s1
  else takeRequest (.closing d.id) (setDep d.id (fun e => { e with closingCalled := true }) s1)

/-- A departure reaches DEPARTED (R17). -/
def depart (id : Nat) (s : State) : State :=
  takeRequest (.departed id)
    (setDep id (fun d => { d with movedFrom := [], flashEnd := none }) (enterState .departed id s))

/-- The notices scoped to a departure leave the table (R25, R100). -/
def dropDepNotices (id : Nat) (ns : List Notice) : List Notice := ns.filter fun n => n.scope != .departure id

/-- A departure is removed by evaluation or by carry (R25). -/
def retire (id : Nat) (s : State) : State :=
  (takeRequest (.retired id)
      ((takeRemoval [id] s).onRu fun x => { x with notices := dropDepNotices id x.notices })).onRu
    fun x => { x with roster := x.roster.filter fun d => d.id != id }

/-! ### Evaluation -/

/-- The conditions of R15 for a LISTED departure. -/
def promotable (s : State) (d : Departure) : Bool :=
  match d.platform with
  | none => false
  | some p =>
    !isClosed s p && (boardingAt s.ru.roster p).isNone
      && (if contactUsable s p then
            decide ((platformRec s p).contact = .present)
              && (firstListedAt s.ru.roster p).any (fun f => f.id = d.id)
              && !knownAbove (countdown s d) (s.ru.par.arrive * 1000)
          else knownAtMost (countdown s d) (s.ru.par.board * 1000))

/-- A departure at its platform by the time rules: its platform has no usable contact (R18). -/
def timeRuled (s : State) (d : Departure) : Bool := !(d.platform.any (contactUsable s))

/-- The first transition or removal of a departure whose condition holds (R13); none when no condition holds. BOARDING
and CLOSING turn into each other (R16) whatever the platform's contact, as R16, table 1.3 and R20 put it; R18 says that a
departure at a usable contact "stays in its state at each pass", which is taken of the time-based departure alone (DEDUCED,
log 42). -/
def transitionOf (s : State) (d : Departure) : Option (State → State) :=
  let c := countdown s d
  match d.state with
  | .listed =>
    if knownAtMost c (-(s.ru.par.stale * 60000 : Nat)) then some (retire d.id)
    else if promotable s d then some (promote d)
    else none
  | .boarding =>
    if timeRuled s d && knownAtMost c (-(s.ru.par.grace * 1000 : Nat)) then some (depart d.id)
    else if knownAtMost c (s.ru.par.close * 1000) then some (beginClosing d)
    else none
  | .closing =>
    if timeRuled s d && knownAtMost c (-(s.ru.par.grace * 1000 : Nat)) then some (depart d.id)
    else if knownAbove c (s.ru.par.close * 1000) then some (enterState .boarding d.id)
    else none
  | .departed => if d.stamp + s.ru.par.gone * 1000 ≤ s.sc.u then some (retire d.id) else none
  | .cancelled =>
    if s.sc.clock ≠ .unset ∧ d.sched * 60000 - s.sc.t ≤ -(s.ru.par.cancel * 60000 : Nat) then some (retire d.id)
    else none

/-- The visit of one departure in a pass: its transition, if any, and a note that one was made (R13). -/
def visit (acc : State × Bool) (id : Nat) : State × Bool :=
  match (findDep acc.1 id).bind (transitionOf acc.1) with
  | some f => (f acc.1, true)
  | none => acc

/-- The visits of a pass, in the roster order at its start. -/
def evaluationPass (s : State) : State × Bool := (s.ru.roster.map (·.id)).foldl visit (s, false)

/-- An evaluation pass (R13): in RUNNING alone, with one frame request at its end when it made a transition or
removal. -/
def evaluate (s : State) : State :=
  if s.xp.run = .running then
    if (evaluationPass s).2 then requestFrame (evaluationPass s).1 else (evaluationPass s).1
  else s

/-! ### Edges -/

/-- The effect of an ABSENT edge on the boarding departure of its platform (R19, R64). -/
def absentEffect (p : Nat) (s : State) : State :=
  match boardingAt s.ru.roster p with
  | none => s
  | some d =>
    if knownAbove (countdown s d) (s.ru.par.depart * 1000) then enterState .listed d.id s else depart d.id s

/-- The Roster Unit takes an ABSENT edge; it ends with a frame request (R19, log 27). -/
def absentEdge (p : Nat) (s : State) : State := requestFrame (absentEffect p s)

/-! ### Day carry -/

/-- The carry of one departure (R27): S falls by 1440, or the departure is removed when S would fall below −1440. -/
def carryOne (s : State) (id : Nat) : State :=
  match findDep s id with
  | none => s
  | some d =>
    if d.sched - 1440 < -1440 then retire id s else setDep id (fun e => { e with sched := e.sched - 1440 }) s

/-- Day carry (R27), in roster order. -/
def carry (s : State) : State := (s.ru.roster.map (·.id)).foldl carryOne s

/-! ### Running ticks -/

/-- U is at a whole multiple of 1000, at which a running tick is issued; the first is at U = 1000 (R32). -/
def atRunningTick (s : State) : Bool := decide (s.sc.u % 1000 = 0) && decide (s.sc.u ≠ 0)

/-- The flash of a departure ends at this U (R67). -/
def flashDue (u : Nat) (d : Departure) : Bool := d.flashEnd.any fun e => decide (e ≤ u)

/-- The ends of flashes at a running tick, with a frame request when one ended (R67). -/
def endFlashes (s : State) : State :=
  if s.ru.roster.any (flashDue s.sc.u) then
    requestFrame
      (s.onRu fun x =>
        { x with
          roster := x.roster.map fun d =>
            if flashDue s.sc.u d then { d with movedFrom := [], flashEnd := none } else d })
  else s

/-- A notice expires at this U (R99). -/
def noticeExpired (u : Nat) (n : Notice) : Bool :=
  decide (n.durationS ≠ 0) && decide (n.postedAt + n.durationS * 1000 ≤ u)

/-- The expiry of notices at a running tick, with one frame request when one was removed (R99). -/
def expireNotices (s : State) : State :=
  if s.ru.notices.any (noticeExpired s.sc.u) then
    requestFrame (s.onRu fun x => { x with notices := x.notices.filter fun n => !noticeExpired s.sc.u n })
  else s

/-- A notice is due for a repeat at this U (R102); one that expires at the tick is not repeated (R99). -/
def repeatDue (u : Nat) (n : Notice) : Bool :=
  n.speak && decide (0 < n.repeatMin) && n.lastSpoken.any (fun l => decide (l + n.repeatMin * 60000 ≤ u))
    && !noticeExpired u n

/-- A notice is asked to be spoken and takes its last-spoken time (R101, R102). -/
def speakNotice (s : State) (id : Nat) : State :=
  takeRequest (.notice id)
    (s.onRu fun x =>
      { x with notices := x.notices.map fun n => if n.id = id then { n with lastSpoken := some s.sc.u } else n })

/-- The repeats at a running tick in RUNNING, in table order (R102). -/
def repeatNotices (s : State) : State :=
  if s.xp.run = .running then ((s.ru.notices.filter (repeatDue s.sc.u)).map (·.id)).foldl speakNotice s else s

end Sys2Proof.Machine
end

