-- ==== Sys2Proof/Machine/Clock.lean ====
section
/-! DEFINITION. The Station Clock: advances of station time, slew points, rollovers, marks, steps, holdover and
SET_TIME (R31 to R50). -/

namespace Sys2Proof.Machine

/-- The clock is set: HOLDOVER or TRACKING (R36). -/
def clockSet (s : State) : Bool := decide (s.sc.clock ≠ .unset)

/-- A CLOCK report is asked for, and CLOCK_EVENT is raised at the same point (R50). -/
def clockReport (sub : ClockSub) (offset : Option Int) (s : State) : State :=
  raiseAttn .clockEvent (takeRequest (.clock sub offset) s)

/-- The next service day number, from 65534 to 0 (R34). -/
def nextDay (d : Nat) : Nat := (d + 1) % Config.dayModulus

/-! ### Events -/

/-- A station second: evaluation in RUNNING, and a clock record for each clock panel in RUNNING (R38, R39, R121). The
evaluation pass, with the frame it may request, comes before the clock records (DEDUCED, log 46). -/
def takeStationSecond (s : State) : State :=
  let s1 := evaluate s
  if s1.xp.run = .running then clockRecords s1 else s1

/-- A station minute: a frame request (R39). -/
def takeStationMinute (s : State) : State := requestFrame s

/-- A rollover, after which station time is `t` (R34): the day number rises, the roster is carried, and a CARRY report
is made. -/
def rollOver (t : Nat) (s : State) : State :=
  clockReport .carry none (carry (s.onSc fun c => { c with t := t, day := nextDay c.day }))

/-- The station second and station minute that follow a rollover, a step or a set (R38). -/
def secondAndMinute (s : State) : State := takeStationMinute (takeStationSecond s)

/-- The events of an advance from station time `before`, within the day (R38). -/
def crossings (before : Nat) (s : State) : State :=
  let s1 := if before / 1000 = s.sc.t / 1000 then s else takeStationSecond s
  if before / 60000 = s.sc.t / 60000 then s1 else takeStationMinute s1

/-- An advance of T by `n` ms with its events (R33, R34, R38). -/
def advance (n : Nat) (s : State) : State :=
  if s.sc.t + n < Config.dayMs then crossings s.sc.t (s.onSc fun c => { c with t := c.t + n })
  else secondAndMinute (rollOver (s.sc.t + n - Config.dayMs) s)

/-! ### Slew points -/

/-- How far T advances at a slew point (R43). -/
def slewAdvance (p : Int) : Nat := if 0 < p then 2 else if p < 0 then 0 else 1

/-- The pending slew after a slew point (R43). -/
def slewRest (p : Int) : Int := if 0 < p then p - 1 else if p < 0 then p + 1 else 0

/-- U is at a whole multiple of 100, a slew point (R43); U = 0 is reset, before the first millisecond. -/
def atSlewPoint (s : State) : Bool := decide (s.sc.u % 100 = 0) && decide (s.sc.u ≠ 0)

/-- A slew point in HOLDOVER or TRACKING (R43). -/
def slewPoint (s : State) : State :=
  advance (slewAdvance s.sc.slew) (s.onSc fun c => { c with slew := slewRest c.slew })

/-! ### Marks -/

/-- A mark is accepted (R40). -/
def markAccepted (s : State) : Bool :=
  clockSet s && s.sc.lastMark.all fun m => decide (m + Config.bounceMs ≤ s.sc.u)

/-- The offset of a mark at station time `t` (R41). -/
def markOffset (t : Nat) : Int := ((t % 60000 + 30000) % 60000 : Nat) - 30000

/-- A slewing mark (R42). -/
def slewMark (o : Int) (s : State) : State :=
  let s1 := s.onSc fun c => { c with slew := -o, candidate := none, clock := .tracking }
  if s.sc.clock = .tracking then s1 else clockReport .tracking (some o) s1

/-- T moved by a step, with its rollover when it reaches the end of the day (R45 step 1). -/
def stepTime (o : Int) (s : State) : State :=
  let t := ((s.sc.t : Int) - o).toNat
  if t < Config.dayMs then s.onSc fun c => { c with t := t } else rollOver (t - Config.dayMs) s

/-- A step (R45). The evaluation pass of its time change comes before the report (log 21). -/
def stepClock (o : Int) (s : State) : State :=
  secondAndMinute
    (clockReport .stepped (some o)
      (evaluate ((stepTime o s).onSc fun c => { c with slew := 0, candidate := none, clock := .tracking })))

/-- A large offset is judged against the step candidate (R44). -/
def stepMark (o : Int) (s : State) : State :=
  match s.sc.candidate with
  | some k => if (o - k).natAbs ≤ 1000 then stepClock o s else s.onSc fun c => { c with candidate := some o }
  | none => s.onSc fun c => { c with candidate := some o }

/-- An accepted mark is disciplined (R41 to R45). -/
def disciplineMark (s : State) : State :=
  let o := markOffset s.sc.t
  if o.natAbs ≤ s.sc.stepLimit then slewMark o s else stepMark o s

/-- The Station Clock takes a mark (R40). -/
def takeMark (s : State) : State :=
  if markAccepted s then disciplineMark (s.onSc fun c => { c with lastMark := some c.u }) else s

/-! ### Holdover -/

/-- The holdover timeout is due (R46). -/
def holdoverDue (s : State) : Bool :=
  decide (s.sc.clock = .tracking) && s.sc.lastMark.any fun m => decide (m + Config.holdoverMs ≤ s.sc.u)

/-- TRACKING enters HOLDOVER (R46). -/
def enterHoldover (s : State) : State :=
  clockReport .holdover none (s.onSc fun c => { c with clock := .holdover, candidate := none })

/-! ### SET_TIME -/

/-- A SET_TIME entry is refused (R47); the day is a field of 16 bits, so one of 65535 or more is 65535. -/
def setTimeRefused (w d : Nat) (s : State) : Bool :=
  decide (Config.dayMs ≤ w) || decide (65535 ≤ d)
    || (clockSet s && decide (d ≠ s.sc.day) && decide (d ≠ nextDay s.sc.day))

/-- The station time of a wall time (R48 step 2). -/
def stationTimeOf (w rollover : Nat) : Nat := (((w : Int) - rollover * 60000) % Config.dayMs).toNat

/-- The set itself, up to its SET report (R48 steps 1 to 4); the time change, the station second and the station minute
that follow are taken when the commit is done (log 21). -/
def setTime (w d : Nat) (s : State) : State :=
  let s1 := if clockSet s && decide (d = nextDay s.sc.day) then rollOver s.sc.t s else s
  clockReport .set none
    (s1.onSc fun c =>
      { c with t := stationTimeOf w c.rollover, day := d, slew := 0, candidate := none, clock := .holdover })

/-- What a set issues for its new T: the time change with its evaluation pass, and one station second and one station
minute (R48 steps 4 and 5, R38). -/
def setTimeEvents (s : State) : State := secondAndMinute (evaluate s)

end Sys2Proof.Machine
end

