-- ==== Sys2Proof/Machine/Contacts.lean ====
section
/-! DEFINITION. The Platform Unit: filtering, accepted changes, chatter, baselines and restores of track contacts (R52
to R62, R70). -/

namespace Sys2Proof.Machine

/-- A change of the record of platform `p`, 1 to 32. -/
def setPlatform (p : Nat) (f : PlatformRec → PlatformRec) (s : State) : State :=
  if p = 0 then s else s.onPu fun x => { x with platforms := x.platforms.modify (p - 1) f }

/-- The occupancy that a level means at a platform (R54). -/
def occupancyOf (r : PlatformRec) (level : Bool) : Bool := xor level r.presentWhenLow

/-- The contact state of an occupancy. -/
def contactOf (present : Bool) : ContactState := if present then .present else .absent

/-- The Platform Unit takes a level change of a platform's contact line (R54): in RUNNING alone. -/
def takeLevel (p : Nat) (level : Bool) (s : State) : State :=
  if s.xp.run = .running then
    setPlatform p
      (fun r =>
        let next : Option Pending := some ⟨occupancyOf r level, s.sc.u⟩
        match r.contact with
        | .fault => r
        | .unknown => { r with pending := next }
        | .present | .absent => { r with pending := if r.pending.isSome then none else next })
      s
  else s

/-- The platform in service that names a field line as its contact line. -/
def platformOfLine (s : State) (line : Nat) : Option Nat :=
  ((List.range 32).map (· + 1)).find? fun p => inService s p && (platformRec s p).line == some line

/-- An accepted change is chatter (R57). -/
def isChatter (r : PlatformRec) (u : Nat) : Bool :=
  decide (Config.historyLimit ≤ r.history.length) && r.history.head?.any fun h => decide (u ≤ h + Config.chatterMs)

/-- The last 8 accepted changes with one more (R56). -/
def appendChange (u : Nat) (h : List Nat) : List Nat :=
  (if Config.historyLimit ≤ h.length then h.drop 1 else h) ++ [u]

/-- A chatter change (R57). -/
def contactFaults (p : Nat) (s : State) : State :=
  requestFrame
    (raiseAttn .contactFault
      (takeRequest (.contact p .fault)
        (setPlatform p (fun r => { r with contact := .fault, pending := none, history := [] }) s)))

/-- An accepted change that is not chatter (R56): the state, the history, the edge, the report and the frame request. -/
def acceptChange (p : Nat) (present : Bool) (s : State) : State :=
  let s1 :=
    setPlatform p
      (fun r => { r with contact := contactOf present, pending := none, history := appendChange s.sc.u r.history }) s
  let s2 := if present then s1 else absentEdge p s1
  requestFrame (takeRequest (.contact p .edge) s2)

/-- The end of a baseline (R59). -/
def endBaseline (p : Nat) (present : Bool) (s : State) : State :=
  requestFrame
    (takeRequest (.contact p .baseline)
      (setPlatform p (fun r => { r with contact := contactOf present, pending := none }) s))

/-- A pending change has lasted the filter time (R55, R56, R57, R59). -/
def pendingExpired (p : Nat) (present : Bool) (s : State) : State :=
  match (platformRec s p).contact with
  | .unknown => endBaseline p present s
  | .fault => s
  | .present | .absent => if isChatter (platformRec s p) s.sc.u then contactFaults p s else acceptChange p present s

/-- The pending change of a platform that is due to expire (R55). -/
def pendingDue (s : State) (p : Nat) : Option Pending :=
  if s.xp.run = .running ∧ inService s p = true then
    (platformRec s p).pending.filter fun c => decide (c.since + (platformRec s p).filter ≤ s.sc.u)
  else none

/-- The last sampled level of a field line (R133). -/
def lineLevel (s : State) (line : Nat) : Bool := ((s.fu.lines[line]?).map (·.level)).getD false

/-- A baseline starts for a platform with a contact line (R59). -/
def startBaseline (p : Nat) (s : State) : State :=
  match (platformRec s p).line with
  | none => s
  | some line =>
    setPlatform p
      (fun r =>
        { r with contact := .unknown, history := [], pending := some ⟨occupancyOf r (lineLevel s line), s.sc.u⟩ })
      s

/-- A contact is forgotten: UNKNOWN, no pending change, no history (R61, R62). -/
def forgetContact (r : PlatformRec) : PlatformRec := { r with contact := .unknown, pending := none, history := [] }

/-- A RESTORE_CONTACT commit (R62). -/
def restoreContact (p : Nat) (s : State) : State :=
  let s1 := setPlatform p forgetContact s
  if s.xp.run = .running then startBaseline p s1 else s1

/-- Every contact becomes UNKNOWN (R61). -/
def forgetContacts (s : State) : State := s.onPu fun x => { x with platforms := x.platforms.map forgetContact }

end Sys2Proof.Machine
end

