-- ==== Sys2Proof/Machine/FieldLines.lean ====
section
/-! DEFINITION. The Field Line Unit: sampled lines and marks, strobes, dim channels and sensors (R131 to R140). -/

namespace Sys2Proof.Machine

/-- A change of one field line. -/
def setLine (line : Nat) (f : FieldLine → FieldLine) (s : State) : State :=
  s.onFu fun x => { x with lines := x.lines.modify line f }

/-! ### Sampled lines -/

/-- What a line of a function samples (R131): a CONTACT line with its pull-up set is held high while nothing drives it;
otherwise the sample is the level on the line. -/
def LineFn.sampled (fn : LineFn) (level driven : Bool) : Bool :=
  match fn with
  | .contact pullUp => level || (pullUp && !driven)
  | _ => level

/-- A CONTACT line's sample differs from the level held: the held level takes it, and the platform that names the line
is told (R133). -/
def holdSample (line : Nat) (held sample : Bool) (s : State) : State :=
  if held = sample then s
  else
    let s1 := setLine line (fun l => { l with level := sample }) s
    match platformOfLine s line with
    | some p => takeLevel p sample s1
    | none => s1

/-- A CONTACT line is sampled (R131, R133). -/
def contactSample (line : Nat) (level driven : Bool) (s : State) : State :=
  match s.fu.lines[line]? with
  | some ⟨.contact pullUp, held, _⟩ => holdSample line held ((LineFn.contact pullUp).sampled level driven) s
  | _ => s

/-- A change to a level matches the edge option (R134). -/
def MarkEdge.admits : MarkEdge → (level : Bool) → Bool
  | .rising, level => level
  | .falling, level => !level
  | .both, _ => true

/-- The MARK line with its edge option and its held level. -/
def markLine (lines : List FieldLine) : Option (Nat × MarkEdge × Bool) :=
  lines.zipIdx.findSome? fun l =>
    match l.1.fn with
    | .mark e => some (l.2, e, l.1.level)
    | _ => none

/-- The MARK line's sample differs from the level held: the held level takes it, and a matching change delivers a mark
to the Station Clock (R133, R134). -/
def markSample (level : Bool) (s : State) : State :=
  match markLine s.fu.lines with
  | none => s
  | some (line, edge, held) =>
    if held = level then s
    else
      let s1 := setLine line (fun l => { l with level := level }) s
      if edge.admits level then takeMark s1 else s1

/-! ### Strobes -/

/-- The pulse end of a line is reached (R135). -/
def pulseOver (u : Nat) (l : FieldLine) : Bool := l.pulseEnd.any fun e => decide (e ≤ u)

/-- A line returns to its inactive level when its pulse end is reached (R135). -/
def endPulse (line : Nat) (s : State) : State :=
  setLine line (fun l => if pulseOver s.sc.u l then { l with pulseEnd := none } else l) s

/-! ### Dim channels -/

/-- The function of a line. -/
def lineFn (lines : List FieldLine) (line : Nat) : LineFn := ((lines[line]?).map (·.fn)).getD .idle

/-- A dim channel is configured when its even line is DIM_TRUE and its odd line DIM_COMP (R136). -/
def dimConfigured (lines : List FieldLine) (k : Nat) : Bool :=
  decide (lineFn lines (32 + 2 * k) = .dimTrue) && decide (lineFn lines (33 + 2 * k) = .dimComp)

/-- The waveform of a period for a duty `x` and a dead time `d`, in units of 100 ns (R137). -/
def dimWaveform (x d : Nat) : DimDrive :=
  if x = 0 then ⟨none, some (0, 10000)⟩
  else if 1000 ≤ x then ⟨some (0, 10000), none⟩
  else
    ⟨if 10 * x ≤ d then none else some (d, 10 * x),
      if 10000 ≤ 10 * x + d then none else some (10 * x + d, 10000)⟩

/-- A change of the dim channels, each with its number. -/
def onDims (f : Nat → Dim → Dim) (s : State) : State :=
  s.onFu fun x => { x with dims := x.dims.zipIdx.map fun d => f d.2 d.1 }

/-- Each configured channel begins a period (R137). -/
def dimPeriod (s : State) : State :=
  onDims (fun k d => if dimConfigured s.fu.lines k then { d with drive := some (dimWaveform d.duty d.par.dead) } else d) s

/-- The average of a sensor's samples: 0 until 8 are held (R138). -/
def sensorAverage (samples : List Nat) : Nat :=
  if samples.length < Config.sampleLimit then 0 else samples.sum / 8

/-- The base target of a channel (R139 step 1). -/
def dimBaseTarget (sensors : List (List Nat)) (p : DimParams) : Nat :=
  match p.sensor with
  | some k => clampNat (p.base + sensorAverage (sensors.getD k []) * p.slope / 1024) p.min p.max
  | none => clampNat p.base p.min p.max

/-- A wall minute lies in the night window (R139). -/
def inNight (p : DimParams) (w : Nat) : Bool :=
  if p.nightStart < p.nightEnd then decide (p.nightStart ≤ w) && decide (w < p.nightEnd)
  else if p.nightEnd < p.nightStart then decide (p.nightStart ≤ w) || decide (w < p.nightEnd)
  else false

/-- The target of a channel at a running tick (R139). -/
def dimTarget (s : State) (p : DimParams) : Nat :=
  let base := dimBaseTarget s.fu.sensors p
  if clockSet s && inNight p (wallTime s.sc.rollover s.sc.t / 60000) then min base p.nightMax else base

/-- A duty moves toward its target (R140). -/
def rampToward (duty target : Nat) : Nat :=
  if duty < target then min (duty + Config.rampStep) target
  else if target < duty then max (duty - Config.rampStep) target
  else duty

/-- One ramp step of each configured channel in RUNNING (R140). -/
def rampDims (s : State) : State :=
  if s.xp.run = .running then
    onDims (fun k d => if dimConfigured s.fu.lines k then { d with duty := rampToward d.duty (dimTarget s d.par) } else d) s
  else s

/-- Every duty becomes 0 (R136). -/
def zeroDuties (s : State) : State := onDims (fun _ d => { d with duty := 0 }) s

/-! ### Sensors -/

/-- The last 8 samples with one more (R138). -/
def appendSample (x : Nat) (h : List Nat) : List Nat :=
  (if Config.sampleLimit ≤ h.length then h.drop 1 else h) ++ [x]

/-- A sample of each ANALOG line, reading `r k` at line L40 + k (R138). -/
def sampleSensors (r : Nat → Nat) (s : State) : State :=
  s.onFu fun x =>
    { x with
      sensors := x.sensors.zipIdx.map fun h =>
        if lineFn x.lines (40 + h.2) = .analog then appendSample (r h.2) h.1 else h.1 }

end Sys2Proof.Machine
end

