-- ==== Sys2Proof/Machine/SheetParse.lean ====
section
/-! DEFINITION. The bytes of a sheet as a header and entries, and the check of its structure (R76, R77, R189). -/

namespace Sys2Proof.Machine

/-- One of the fourteen kinds of entry with its fields, as the host wrote them (R189). -/
inductive Entry where
  | add (id sched kind : Nat) (quiet delayGiven : Bool) (dest platform delay : Nat) (label : List Byte)
  | setCalls (id : Nat) (names : List Nat)
  | setDelay (id delay : Nat) (reason : Option Nat)
  | setPlatform (id platform : Nat)
  | cancel (id : Nat) (reason : Option Nat)
  | reinstate (id : Nat)
  | withdraw (id : Nat)
  | clearRoster
  | postNotice (id scope value priority text : Nat) (speak : Bool) (repeatMin durationS : Nat)
  | endNotice (id : Nat)
  | closure (platform : Nat) (close : Bool)
  | restoreContact (platform : Nat)
  | setTime (day wall : Nat)
  | flushNames (idx : Nat)
  deriving DecidableEq, Repr

/-- The host's fields of a slot header (R189). -/
def parseHeader (bs : List Byte) : SheetHeader where
  dayStamp := fieldAt bs 4 2
  unitCount := fieldAt bs 6 1
  guard := bitAt (fieldAt bs 7 1) 0
  expected := fieldAt bs 8 4

/-- The name count of a SET_CALLS entry. -/
def nameCount (bs : List Byte) : Nat := fieldAt bs 4 1

/-- The length in units that an entry's kind requires (R77). -/
def requiredUnits (kind : Nat) (bs : List Byte) : Nat :=
  if kind = 1 then 2 else if kind = 2 then 1 + (nameCount bs + 7) / 8 else 1

/-- The entry at the head of the bytes passes the structure check (R76, R77). -/
def entryWellFormed (bs : List Byte) : Bool :=
  let kind := fieldAt bs 0 1
  let len := fieldAt bs 1 1
  decide (1 ≤ len) && decide (16 * len ≤ bs.length)
    && decide (1 ≤ kind) && decide (kind ≤ 14)
    && decide (len = requiredUnits kind bs)
    && (decide (kind ≠ 2) || decide (nameCount bs ≤ 40))

/-- The names of a SET_CALLS entry. -/
def entryNames (bs : List Byte) : List Nat := (List.range (nameCount bs)).map fun k => fieldAt bs (16 + 2 * k) 2

/-- A well-formed entry at the head of the bytes, with its fields (R189). -/
def parseEntry (bs : List Byte) : Entry :=
  let id := fieldAt bs 2 2
  match fieldAt bs 0 1 with
  | 1 =>
    .add id (fieldAt bs 4 2) (fieldAt bs 6 1) (bitAt (fieldAt bs 7 1) 0) (bitAt (fieldAt bs 7 1) 1) (fieldAt bs 8 2)
      (fieldAt bs 10 1) (fieldAt bs 12 2) (textOf ((bs.drop 16).take 8))
  | 2 => .setCalls id (entryNames bs)
  | 3 => .setDelay id (fieldAt bs 4 2) (optionalField 2 (fieldAt bs 6 2))
  | 4 => .setPlatform id (fieldAt bs 4 1)
  | 5 => .cancel id (optionalField 2 (fieldAt bs 6 2))
  | 6 => .reinstate id
  | 7 => .withdraw id
  | 8 => .clearRoster
  | 9 =>
    .postNotice (fieldAt bs 2 1) (fieldAt bs 3 1) (fieldAt bs 4 2) (fieldAt bs 6 1) (fieldAt bs 8 2)
      (bitAt (fieldAt bs 7 1) 0) (fieldAt bs 10 1) (fieldAt bs 12 4)
  | 10 => .endNotice (fieldAt bs 2 1)
  | 11 => .closure (fieldAt bs 2 1) (bitAt (fieldAt bs 3 1) 0)
  | 12 => .restoreContact (fieldAt bs 2 1)
  | 13 => .setTime id (fieldAt bs 4 4)
  | _ => .flushNames id

/-- The walk over the entries from the one numbered `index` on (R76): the entries, or the index of the first that fails.
`fuel` is the number of units, which no sheet's entries outnumber. -/
def walkEntries : (fuel index : Nat) → List Byte → Except Nat (List Entry)
  | _, _, [] => .ok []
  | 0, i, _ :: _ => .error i
  | n + 1, i, b :: bs =>
    if entryWellFormed (b :: bs) then
      match walkEntries n (i + 1) ((b :: bs).drop (16 * fieldAt (b :: bs) 1 1)) with
      | .ok es => .ok (parseEntry (b :: bs) :: es)
      | .error j => .error j
    else .error i

/-- A SET_TIME entry. -/
def Entry.isSetTime : Entry → Bool
  | .setTime _ _ => true
  | _ => false

/-- The structure check of a sheet (R76, R77): its entries, or the failing entry index of MALFORMED. -/
def checkStructure (unitCount : Nat) (bs : List Byte) : Except Nat (List Entry) :=
  if 62 < unitCount then .error 255
  else
    match walkEntries unitCount 0 bs with
    | .error i => .error i
    | .ok es =>
      match es.findIdx? Entry.isSetTime with
      | some i => if 1 < es.length then .error i else .ok es
      | none => .ok es

end Sys2Proof.Machine
end

