-- ==== Sys2Proof/Machine/SheetApply.lean ====
section
/-! DEFINITION. The entries of a sheet applied to a working copy, the final checks, the commit and the abort (R6, R20,
R21, R65, R66, R78 to R94, R97). -/

namespace Sys2Proof.Machine

/-- The result codes (R80). -/
inductive Code where
  | applied | fetchFault | malformed | staleDay | changed | badValue | unknownDeparture | duplicate | tooLate
  | clockRefused | platformClosed | rosterFull | noticesFull
  deriving DecidableEq, Repr

/-- The number of a result code (R80). -/
def Code.number : Code → Nat
  | .applied => 0
  | .fetchFault => 1
  | .malformed => 2
  | .staleDay => 3
  | .changed => 4
  | .badValue => 5
  | .unknownDeparture => 6
  | .duplicate => 7
  | .tooLate => 8
  | .clockRefused => 9
  | .platformClosed => 10
  | .rosterFull => 11
  | .noticesFull => 12

/-- A record of the working copy: the departure, the index of the entry that created it (absent for one that stood in
the roster), and the marks that the commit reads: moved between states or created, flash to be started, platform
changed. -/
structure WorkDep where
  dep : Departure
  born : Option Nat
  stamped : Bool
  flash : Bool
  moved : Bool
  deriving DecidableEq, Repr

/-- What names a record of the working copy across the sheet: its id and the entry that created it (R92). -/
abbrev Key := Nat × Option Nat

/-- The key of a record. -/
def WorkDep.key (w : WorkDep) : Key := (w.dep.id, w.born)

/-- An effect or request noted for the commit (R92). -/
inductive Note where
  | delay (key : Key) (d : Delay)
  | platformChange (key : Key) (old new : Nat)
  | cancellation (key : Key)
  | reinstated (key : Key)
  | removal (ids : List Nat)
  | notice (id : Nat)
  | restore (p : Nat)
  | setTime (wall day : Nat)
  | flush (named : Option Nat)
  deriving DecidableEq, Repr

/-- The working copy (R80): departures, notices, closed flags, the ids that POST_NOTICE entries have carried in sheet
order, the clamps made, and the notes in sheet order. -/
structure Work where
  deps : List WorkDep
  notices : List Notice
  closed : List Bool
  posted : List Nat
  clamps : Nat
  notes : List Note
  deriving DecidableEq, Repr

/-- The working copy at the start of the apply. -/
def Work.of (x : RU) : Work where
  deps := x.roster.map fun d => ⟨d, none, false, false, false⟩
  notices := x.notices
  closed := x.closed
  posted := []
  clamps := 0
  notes := []

/-- A record of the working copy by its departure id. -/
def Work.find (w : Work) (id : Nat) : Option WorkDep := w.deps.find? fun r => r.dep.id = id

/-- One record changed in its place. -/
def Work.update (w : Work) (id : Nat) (f : WorkDep → WorkDep) : Work :=
  { w with deps := w.deps.map fun r => if r.dep.id = id then f r else r }

/-- A note added. -/
def Work.note (w : Work) (n : Note) : Work := { w with notes := w.notes ++ [n] }

/-- Clamps added. -/
def Work.clamp (w : Work) (n : Nat) : Work := { w with clamps := w.clamps + n }

/-- A record added at the end. -/
def Work.addDep (w : Work) (r : WorkDep) : Work := { w with deps := w.deps ++ [r] }

/-- A departure removed with the notices scoped to it (R86). -/
def Work.dropDep (w : Work) (id : Nat) : Work :=
  { w with deps := w.deps.filter fun r => r.dep.id != id, notices := dropDepNotices id w.notices }

/-- A notice removed. -/
def Work.dropNotice (w : Work) (id : Nat) : Work := { w with notices := w.notices.filter fun n => n.id != id }

/-- A posted notice placed, which replaces one of its id (R87). -/
def Work.placeNotice (w : Work) (n : Notice) : Work :=
  { w with notices := (w.dropNotice n.id).notices ++ [n], posted := w.posted ++ [n.id] }

/-- The outcome of an entry: the working copy after it, or the code it fails with. -/
abbrev Applied := Except Code Work

/-! ### Fields -/

/-- The delay of a delay field (R81, R83): 0xFFFF is UNKNOWN, above 719 is taken as 719. -/
def delayOf (v : Nat) : Delay := if v = 0xFFFF then .unknown else if 719 < v then .known 719 else .known v

/-- The clamps that a delay field makes (R94). -/
def delayClamps (v : Nat) : Nat := if v = 0xFFFF then 0 else if 719 < v then 1 else 0

/-- A name index is valid when it is below the name table size (R80). -/
def validName (s : State) (idx : Nat) : Bool := decide (idx < s.wc.nameSize)

/-- An id that no departure can have. -/
def badId (id : Nat) : Bool := decide (id = 0) || decide (id = 65535)

/-- The platform of an ADD entry: absent or 0 for none (R81). -/
def addPlatform (v : Nat) : Option Nat := if v = 0 ∨ v = 255 then none else some v

/-! ### Departure entries -/

/-- A new departure record (R4). -/
def newDeparture (id : Nat) (sched : Int) (kind : Nat) (quiet : Bool) (dest : Nat) (platform : Option Nat) (delay : Delay)
    (label : List Byte) : Departure where
  id := id
  label := label
  kind := kind
  quiet := quiet
  sched := sched
  delay := delay
  announced := .known 0
  reason := none
  dest := dest
  calls := []
  platform := platform
  movedFrom := []
  flashEnd := none
  state := .listed
  stamp := 0
  boardingCalled := none
  closingCalled := false

/-- An ADD entry, the `i`-th of its sheet (R81). -/
def applyAdd (s : State) (i id sched kind : Nat) (quiet delayGiven : Bool) (dest platform delay : Nat)
    (label : List Byte) (w : Work) : Applied :=
  let dly : Delay := if delayGiven then delayOf delay else .known 0
  if badId id || decide (1439 < sched) || decide (7 < kind) || !validName s dest
      || (addPlatform platform).any (fun p => !inService s p) then .error .badValue
  else if (w.find id).isSome then .error .duplicate
  else
    .ok
      (((w.addDep ⟨newDeparture id sched kind quiet dest (addPlatform platform) dly label, some i, true, false, false⟩).clamp
        (if delayGiven then delayClamps delay else 0)).note (.delay (id, some i) dly))

/-- An entry that amends a known departure that has not departed (R82 to R85). -/
def amend (w : Work) (id : Nat) (f : WorkDep → Work) : Applied :=
  match w.find id with
  | none => .error .unknownDeparture
  | some r => if r.dep.state = .departed then .error .tooLate else .ok (f r)

/-- A SET_CALLS entry (R82). -/
def applySetCalls (s : State) (id : Nat) (names : List Nat) (w : Work) : Applied :=
  if names.any fun n => !validName s n then .error .badValue
  else
    amend w id fun _ =>
      (w.update id fun r => { r with dep := { r.dep with calls := names.take 16 } }).clamp
        (if 16 < names.length then 1 else 0)

/-- A reason that replaces the one held, when it is present (R83, R85, R103). -/
def replaceReason (new old : Option Nat) : Option Nat :=
  match new with
  | some r => some r
  | none => old

/-- A SET_DELAY entry (R83). -/
def applySetDelay (s : State) (id delay : Nat) (reason : Option Nat) (w : Work) : Applied :=
  if reason.any fun r => !validName s r then .error .badValue
  else
    amend w id fun r =>
      ((w.update id fun r =>
          { r with dep := { r.dep with delay := delayOf delay, reason := replaceReason reason r.dep.reason } }).clamp
        (delayClamps delay)).note (.delay r.key (delayOf delay))

/-- The moved-from list after a move from `old` to `new` (R65 steps 1 and 2): the newest three remain. -/
def movedFromAfter (old new : Nat) (l : List Nat) : List Nat :=
  let kept := l.filter fun p => p != new
  let appended := if kept.contains old then kept else kept ++ [old]
  if 3 < appended.length then appended.drop 1 else appended

/-- A SET_PLATFORM entry on a record (R65, R66); an unassignment drops the flash mark as well (DEDUCED, log 18). -/
def movePlatform (new : Option Nat) (r : WorkDep) : WorkDep :=
  if r.dep.platform = new then r
  else if r.dep.state = .cancelled then
    { r with dep := { r.dep with platform := new, boardingCalled := none, closingCalled := false }, moved := true }
  else
    match r.dep.platform, new with
    | some old, some p =>
      { r with
        dep :=
          { r.dep with
            platform := some p
            movedFrom := movedFromAfter old p r.dep.movedFrom
            boardingCalled := none
            closingCalled := false }
        flash := true
        moved := true }
    | none, some p => { r with dep := { r.dep with platform := some p }, moved := true }
    | _, none =>
      { r with
        dep :=
          { r.dep with
            platform := none, movedFrom := [], flashEnd := none, boardingCalled := none, closingCalled := false }
        flash := false
        moved := true }

/-- The PLATFORM_CHANGE call that a SET_PLATFORM entry notes: that of the protocol, when it runs (R65). -/
def changeNote (new : Option Nat) (r : WorkDep) : List Note :=
  match r.dep.platform, new with
  | some old, some p =>
    if r.dep.state = .cancelled ∨ old = p then [] else [.platformChange r.key old p]
  | _, _ => []

/-- A SET_PLATFORM entry (R84). -/
def applySetPlatform (s : State) (id platform : Nat) (w : Work) : Applied :=
  if platform ≠ 0 ∧ inService s platform = false then .error .badValue
  else
    let new : Option Nat := if platform = 0 then none else some platform
    amend w id fun r => (changeNote new r).foldl Work.note (w.update id (movePlatform new))

/-- The departure becomes CANCELLED (R21, R85; the flash mark is dropped, log 18). -/
def cancelDep (reason : Option Nat) (r : WorkDep) : WorkDep :=
  { r with
    dep :=
      { r.dep with
        state := .cancelled, movedFrom := [], flashEnd := none, reason := replaceReason reason r.dep.reason }
    stamped := true
    flash := false }

/-- A CANCEL entry (R21, R85). -/
def applyCancel (s : State) (id : Nat) (reason : Option Nat) (w : Work) : Applied :=
  if reason.any fun r => !validName s r then .error .badValue
  else
    amend w id fun r =>
      if r.dep.state = .cancelled then w else (w.update id (cancelDep reason)).note (.cancellation r.key)

/-- A REINSTATE entry (R21, R85). -/
def applyReinstate (id : Nat) (w : Work) : Applied :=
  match w.find id with
  | none => .error .unknownDeparture
  | some r =>
    .ok
      (if r.dep.state = .cancelled then
        (w.update id fun r => { r with dep := { r.dep with state := .listed }, stamped := true }).note
          (.reinstated r.key)
      else w)

/-- A WITHDRAW entry (R86). -/
def applyWithdraw (id : Nat) (w : Work) : Applied :=
  match w.find id with
  | none => .error .unknownDeparture
  | some _ => .ok ((w.dropDep id).note (.removal [id]))

/-- A notice of DEPARTURE scope. -/
def Notice.ofDeparture (n : Notice) : Bool :=
  match n.scope with
  | .departure _ => true
  | _ => false

/-- Every departure removed with every notice of DEPARTURE scope (R86). -/
def Work.dropAll (w : Work) : Work := { w with deps := [], notices := w.notices.filter fun n => !n.ofDeparture }

/-- A CLEAR_ROSTER entry (R86). -/
def applyClearRoster (w : Work) : Applied :=
  .ok (w.dropAll.note (.removal (w.deps.map (·.dep.id))))

/-! ### Notice entries -/

/-- The scope that a code and a value give (R87, R189); none for a code that is none of the three. -/
def scopeOf (code value : Nat) : Option Scope :=
  if code = 1 then some .wall
  else if code = 2 then some (.platform (value % 256))
  else if code = 3 then some (.departure value)
  else none

/-- A scope names a platform out of service, or an id that no departure can have (R87). -/
def badScope (s : State) : Scope → Bool
  | .wall => false
  | .platform p => !inService s p
  | .departure id => badId id

/-- A scope names a departure that is not known. -/
def unknownScope (w : Work) : Scope → Bool
  | .departure id => (w.find id).isNone
  | _ => false

/-- A POST_NOTICE entry (R87, R94). -/
def applyPostNotice (s : State) (id code value priority text : Nat) (speak : Bool) (repeatMin durationS : Nat)
    (w : Work) : Applied :=
  match scopeOf code value with
  | none => .error .badValue
  | some scope =>
    if decide (id = 0) || badScope s scope || decide (3 < priority) || !validName s text then .error .badValue
    else if unknownScope w scope then .error .unknownDeparture
    else if w.posted.contains id then .error .duplicate
    else
      .ok
        (((w.placeNotice ⟨id, scope, priority, text, speak, min repeatMin 60, min durationS 86400, 0, 0, none⟩).clamp
          ((if 60 < repeatMin then 1 else 0) + (if 86400 < durationS then 1 else 0))).note (.notice id))

/-- An END_NOTICE entry (R87). -/
def applyEndNotice (id : Nat) (w : Work) : Applied :=
  if id = 0 then .error .badValue else .ok (w.dropNotice id)

/-! ### Platform, clock and name entries -/

/-- A CLOSE_PLATFORM or OPEN_PLATFORM entry (R68, R88). -/
def applyClosure (s : State) (p : Nat) (close : Bool) (w : Work) : Applied :=
  if inService s p then .ok { w with closed := w.closed.set (p - 1) close } else .error .badValue

/-- A RESTORE_CONTACT entry; two for one platform hand one restore (R62, R88). -/
def applyRestore (s : State) (p : Nat) (w : Work) : Applied :=
  if inService s p && (platformRec s p).line.isSome then
    .ok (if w.notes.contains (.restore p) then w else w.note (.restore p))
  else .error .badValue

/-- A SET_TIME entry (R47, R89). -/
def applySetTime (s : State) (day wall : Nat) (w : Work) : Applied :=
  if setTimeRefused wall day s then .error .clockRefused else .ok (w.note (.setTime wall day))

/-- A FLUSH_NAMES entry; 0xFFFF names all (R89, R189). -/
def applyFlush (s : State) (idx : Nat) (w : Work) : Applied :=
  if idx = 0xFFFF then .ok (w.note (.flush none))
  else if validName s idx then .ok (w.note (.flush (some idx)))
  else .error .badValue

/-- The `i`-th entry of a sheet applied to the working copy (R80). -/
def applyEntry (s : State) (i : Nat) (e : Entry) (w : Work) : Applied :=
  match e with
  | .add id sched kind quiet given dest platform delay label =>
    applyAdd s i id sched kind quiet given dest platform delay label w
  | .setCalls id names => applySetCalls s id names w
  | .setDelay id delay reason => applySetDelay s id delay reason w
  | .setPlatform id platform => applySetPlatform s id platform w
  | .cancel id reason => applyCancel s id reason w
  | .reinstate id => applyReinstate id w
  | .withdraw id => applyWithdraw id w
  | .clearRoster => applyClearRoster w
  | .postNotice id scope value priority text speak rep dur =>
    applyPostNotice s id scope value priority text speak rep dur w
  | .endNotice id => applyEndNotice id w
  | .closure p close => applyClosure s p close w
  | .restoreContact p => applyRestore s p w
  | .setTime day wall => applySetTime s day wall w
  | .flushNames idx => applyFlush s idx w

/-- A failed sheet: its code, its failing entry index, and the clamps made before the failure (R74). -/
structure SheetFailure where
  code : Code
  index : Nat
  clamps : Nat
  deriving DecidableEq, Repr

/-- The entries from the one numbered `i` on, applied in sheet order; the first that fails stops the apply (R80). -/
def applyEntries (s : State) : Nat → List Entry → Work → Except SheetFailure Work
  | _, [], w => .ok w
  | i, e :: es, w =>
    match applyEntry s i e w with
    | .ok w' => applyEntries s (i + 1) es w'
    | .error c => .error ⟨c, i, w.clamps⟩

/-! ### Final checks -/

/-- A departure of the working copy is assigned to a platform closed in it (R68, R90). -/
def Work.blocked (w : Work) : Bool := w.deps.any fun r => r.dep.platform.any (closedIn w.closed)

/-- The final checks (R90). -/
def finalChecks (w : Work) : Option Code :=
  if w.blocked then some .platformClosed
  else if Config.rosterLimit < w.deps.length then some .rosterFull
  else if Config.noticeLimit < w.notices.length then some .noticesFull
  else none

/-! ### The commit -/

/-- Step 3 of the commit (R91, R65): state stamps and flash ends. -/
def stampDep (u flashTime : Nat) (r : WorkDep) : Departure :=
  let d := if r.stamped then { r.dep with stamp := u } else r.dep
  if r.flash then
    if flashTime = 0 then { d with movedFrom := [], flashEnd := none }
    else { d with flashEnd := some (u + flashTime * 1000) }
  else d

/-- Another departure of the working copy holds the platform in BOARDING or CLOSING. -/
def heldByOther (deps : List WorkDep) (r : WorkDep) : Bool :=
  deps.any fun o => o.dep.id != r.dep.id && o.dep.platform == r.dep.platform && o.dep.state.atGate

/-- The departure returns to LISTED at the commit (R20, R91 step 4). -/
def returnsToListed (deps : List WorkDep) (r : WorkDep) : Bool :=
  r.dep.state.atGate && r.moved && (r.dep.platform.isNone || heldByOther deps r)

/-- A record as the commit leaves it (R91 steps 3 and 4). -/
def settleDep (u flashTime : Nat) (deps : List WorkDep) (r : WorkDep) : Departure :=
  let d := stampDep u flashTime r
  if returnsToListed deps r then { d with state := .listed, stamp := u } else d

/-- Roster order: ascending (K, S, id) (R9). -/
def rosterBefore (a b : Departure) : Bool :=
  let ka := sortKey a.sched a.delay
  let kb := sortKey b.sched b.delay
  decide (ka < kb) || (decide (ka = kb) && (decide (a.sched < b.sched) || (decide (a.sched = b.sched) && decide (a.id < b.id))))

/-- The roster that the commit leaves (R91 steps 1 to 4). -/
def committedRoster (u flashTime : Nat) (deps : List WorkDep) : List Departure :=
  sortBy rosterBefore (deps.map (settleDep u flashTime deps))

/-- Notice order: ascending (priority, posting sequence) (R96). -/
def noticeBefore (a b : Notice) : Bool :=
  decide (a.priority < b.priority) || (decide (a.priority = b.priority) && decide (a.seq < b.seq))

/-- The posting sequence after one, a count of 40 bits from 1 (R95, R96); after 2^40 - 1 comes 1 again (DESIGN CHOICE,
log 26). -/
def nextSequence (seq : Nat) : Nat := seq % Config.postingLimit + 1

/-- Step 6 of the commit (R91, R97): the posted notices that are left take, in sheet order, their posting sequences from
`seq` on, posted-at and last-spoken. Answers the notices and the next posting sequence. -/
def placePosted (u : Nat) : List Nat → Nat → List Notice → List Notice × Nat
  | [], seq, ns => (ns, seq)
  | id :: ids, seq, ns =>
    if ns.any fun n => n.id = id then
      placePosted u ids (nextSequence seq)
        (ns.map fun n => if n.id = id then { n with seq := seq, postedAt := u, lastSpoken := none } else n)
    else placePosted u ids seq ns

/-- The Roster Unit after steps 1 to 6 of the commit (R91). -/
def commitRU (u : Nat) (w : Work) (x : RU) : RU :=
  let placed := placePosted u w.posted x.nextPosting w.notices
  { x with
    roster := committedRoster u x.par.flashTime w.deps
    notices := sortBy noticeBefore placed.1
    closed := w.closed
    nextPosting := placed.2
    generation := count32 x.generation }

/-- The DELAY condition (R6). -/
def delayCondition (step : Nat) (announced d : Delay) : Bool :=
  match announced, d with
  | .known a, .known b => decide (a + step ≤ b) || decide (b + step ≤ a)
  | .unknown, .unknown => false
  | _, _ => true

/-- The DELAY test at an ADD or SET_DELAY entry that set the delay `d` (R6, R92). -/
def testDelay (id : Nat) (d : Delay) (s : State) : State :=
  match findDep s id with
  | none => s
  | some r =>
    if delayCondition s.ru.par.delayStep r.announced d then
      takeRequest (.delay id) (setDep id (fun e => { e with announced := d }) s)
    else s

/-- A noted effect is made (R92). -/
def makeNote (s : State) (n : Note) : State :=
  match n with
  | .delay k d => testDelay k.1 d s
  | .platformChange k old new => takeRequest (.platformChange k.1 old new) s
  | .cancellation k => takeRequest (.cancellation k.1) s
  | .reinstated k => takeRequest (.reinstated k.1) s
  | .removal ids => takeRemoval ids s
  | .notice id => if (findNotice s id).any (·.speak) then speakNotice s id else s
  | .restore p => restoreContact p s
  | .setTime wall day => setTime wall day s
  | .flush named => flushNames named s

/-- A note stands when the record it was noted for is in the committed roster (R92). -/
def noteStands (deps : List WorkDep) : Note → Bool
  | .delay k _ => deps.any fun r => r.key == k
  | .platformChange k _ _ => deps.any fun r => r.key == k
  | .cancellation k => deps.any fun r => r.key == k
  | .reinstated k => deps.any fun r => r.key == k
  | _ => true

/-- What the port writes into the result fields (R74). -/
structure SheetResult where
  code : Code
  index : Nat
  clamps : Nat
  generation : Nat
  firstCue : Option Nat
  cueCount : Nat
  deriving DecidableEq, Repr

/-- A SET_TIME noted for the commit. -/
def Note.isSetTime : Note → Bool
  | .setTime _ _ => true
  | _ => false

/-- The cues created between two next creation sequences. -/
def cuesBetween (before after : Nat) : Nat := (after + Config.countModulus - before) % Config.countModulus

/-- The commit up to its requests (R91 steps 1 to 7). -/
def commitNotes (w : Work) (s : State) : State :=
  (w.notes.filter (noteStands w.deps)).foldl makeNote (s.onRu (commitRU s.sc.u w))

/-- A sheet is committed (R91, R92); what a SET_TIME issues for its new T follows the frame request (log 21). -/
def commitSheet (w : Work) (s : State) : State :=
  let s1 := requestFrame (commitNotes w s)
  if w.notes.any Note.isSetTime then setTimeEvents s1 else s1

/-- The result of a commit (R74, R92). -/
def commitResult (w : Work) (s : State) : SheetResult :=
  let made := cuesBetween s.cq.nextSeq (commitNotes w s).cq.nextSeq
  ⟨.applied, 255, w.clamps, count32 s.ru.generation, if made = 0 then none else some s.cq.nextSeq, made⟩

/-! ### The sheet as a whole -/

/-- Every stage of the checks (R73, R76 to R79, R80, R90): the working copy to commit, or the failure. `units` are the
bytes of the entry units, none when the fetch failed. -/
def judgeSheet (h : SheetHeader) (units : Option (List Byte)) (s : State) : Except SheetFailure Work :=
  match units with
  | none => .error ⟨.fetchFault, 255, 0⟩
  | some bs =>
    match checkStructure h.unitCount bs with
    | .error i => .error ⟨.malformed, i, 0⟩
    | .ok es =>
      if h.dayStamp ≠ 0xFFFF ∧ h.dayStamp ≠ s.sc.day then .error ⟨.staleDay, 255, 0⟩
      else if h.guard = true ∧ h.expected ≠ s.ru.generation then .error ⟨.changed, 255, 0⟩
      else
        match applyEntries s 0 es (Work.of s.ru) with
        | .error f => .error f
        | .ok w =>
          match finalChecks w with
          | some c => .error ⟨c, 255, w.clamps⟩
          | none => .ok w

/-- The Roster Unit applies a sheet: it commits, or aborts and changes nothing (R72, R91, R93). -/
def applySheet (h : SheetHeader) (units : Option (List Byte)) (s : State) : State :=
  match judgeSheet h units s with
  | .ok w => commitSheet w s
  | .error _ => s

/-- The result of the sheet (R74, R93). -/
def sheetResult (h : SheetHeader) (units : Option (List Byte)) (s : State) : SheetResult :=
  match judgeSheet h units s with
  | .ok w => commitResult w s
  | .error f => ⟨f.code, f.index, f.clamps, s.ru.generation, none, 0⟩

end Sys2Proof.Machine
end

