-- ==== Sys2Proof/Machine/SheetPort.lean ====
section
/-! DEFINITION. The Exchange Port's side of a sheet: posts, takes, strays, the fetch, the result and DONE (R71 to R74,
R173, R174). -/

namespace Sys2Proof.Machine

/-- A post is refused, or a taken post is a stray: POST_REFUSED, with the slot and the reason in RUNSTAT, whose slot
field is 6 bits wide (R170, R173, R174). -/
def refusePost (slot : Nat) (why : PostRefusal) (s : State) : State :=
  raiseAttn .postRefused (s.onXp fun x => { x with refusedSlot := min slot 63, refusal := why })

/-- The port takes a post when the part is RUNNING, no sheet is in flight and the queue is not empty: the head leaves
the queue and its slot header is read (R174 step 1). -/
def tryTake (s : State) : State :=
  match s.xp.sheet, s.xp.postQueue with
  | none, slot :: rest =>
    if s.xp.run = .running then
      request (readReq .headerRead (slotAddr s slot) 32)
        (s.onXp fun x => { x with postQueue := rest, sheet := some ⟨slot, .headerRead, ⟨0, 0, false, 0⟩⟩ })
    else s
  | _, _ => s

/-- The reason for which a post is refused, the first that holds (R173). -/
def postRefusal (s : State) (value : Nat) : Option PostRefusal :=
  if s.xp.run ≠ .running then some .notRunning
  else if 15 < value then some .range
  else if Config.postLimit ≤ s.xp.postQueue.length then some .full
  else none

/-- A write to POST (R173). -/
def takePost (value : Nat) (s : State) : State :=
  match postRefusal s value with
  | some why => refusePost value why s
  | none => tryTake (s.onXp fun x => { x with postQueue := x.postQueue ++ [value] })

/-- The taken post reaches a step and its request is made. -/
def sheetRequest (j : SheetJob) (r : MemReq) (s : State) : State :=
  request r (s.onXp fun x => { x with sheet := some j })

/-- The result fields, bytes 16 to 31 of the slot (R74, R189). -/
def resultBytes (r : SheetResult) : List Byte :=
  leBytes 1 r.code.number ++ leBytes 1 r.index ++ leBytes 2 r.clamps ++ leBytes 4 r.generation
    ++ optionalBytes 4 r.firstCue ++ leBytes 2 r.cueCount ++ leBytes 2 0

/-- The fetch completion (R72, R73, R174 step 4): the Roster Unit applies the sheet, and the result is written. -/
def fetchCompleted (units : Option (List Byte)) (s : State) : State :=
  match s.xp.sheet with
  | none => s
  | some j =>
    let t := applySheet j.header units s
    sheetRequest { j with phase := .resultWrite }
      (writeReq .resultWrite (slotAddr t j.slot + 16) (resultBytes (sheetResult j.header units s))) t

/-- The flight ends, and the next take follows (R174). -/
def flightEnds (s : State) : State := tryTake (s.onXp fun x => { x with sheet := none })

/-- The slot header has been read (R71, R174 steps 1 and 2). -/
def headerReturned (bs : List Byte) (s : State) : State :=
  match s.xp.sheet with
  | none => s
  | some j =>
    if fieldAt bs 0 4 = 1 then
      sheetRequest { j with phase := .takenWrite, header := parseHeader bs }
        (writeReq .takenWrite (slotAddr s j.slot) (leBytes 4 2)) s
    else flightEnds (refusePost j.slot .stray s)

/-- TAKEN has been written: the entry units are read, and where none is read the fetch is complete (R174 step 3). -/
def takenWritten (s : State) : State :=
  match s.xp.sheet with
  | none => s
  | some j =>
    if 1 ≤ j.header.unitCount ∧ j.header.unitCount ≤ 62 then
      sheetRequest { j with phase := .unitRead }
        (readReq .unitRead (slotAddr s j.slot + 32) (16 * j.header.unitCount)) s
    else fetchCompleted (some []) s

/-- The result fields have been written: DONE follows (R174 step 5). -/
def resultWritten (s : State) : State :=
  match s.xp.sheet with
  | none => s
  | some j => sheetRequest { j with phase := .doneWrite } (writeReq .doneWrite (slotAddr s j.slot) (leBytes 4 3)) s

/-- DONE has been written: SHEET_DONE, and the flight ends (R174 step 5). -/
def doneWritten (s : State) : State := flightEnds (raiseAttn .sheetDone s)

end Sys2Proof.Machine
end

