-- ==== Sys2Proof/Machine/Stopping.lean ====
section
/-! DEFINITION. STOP and the STOPPING sequence (R61, R126, R165, R184). -/

namespace Sys2Proof.Machine

/-- The STOPPING sequence reaches a step. -/
def enterStage (g : StopStage) (s : State) : State := s.onXp fun x => { x with stopStage := some g }

/-- The sheet step ends when no sheet is in flight (R184 step 1). -/
def sheetStep (s : State) : State :=
  if s.xp.stopStage = some .sheet ∧ s.xp.sheet = none then enterStage .frame s else s

/-- A retry time is abandoned; a state-word read goes on (R165). -/
def dropRetry (a : Option OpenAttempt) : Option OpenAttempt := if a = some .reading then a else none

/-- The frame step ends when no frame is in flight; at the page step a retry time that is set is abandoned (R184 step 2,
R165). -/
def frameStep (s : State) : State :=
  if s.xp.stopStage = some .frame ∧ s.wc.frame = none then
    (enterStage .page s).onCq fun x => { x with attempt := dropRetry x.attempt }
  else s

/-- The page step (R165, R184 step 3): it waits for a state-word read and for a cue write, closes the page that is open
with cause STOP, and ends when no page is open. A page whose close has begun before ends that close with the causes it
noted, STOP not among them (DESIGN CHOICE, log 16). The lane step then hands the blank rows (R126). -/
def pageStep (s : State) : State :=
  if s.xp.stopStage = some .page ∧ s.cq.attempt = none ∧ s.cq.writing = none then
    match s.cq.openPage with
    | none => handBlanks (enterStage .lane s)
    | some p => if p.phase = .filling then beginClose { p.causes with stop := true } s else s
  else s

/-- The contact step and the end (R61, R184 steps 5 and 6): a publication is made at the entry to STOPPED when XBASE is
not 0 (R178). -/
def enterStopped (s : State) : State :=
  let t := enterRun .stopped ((forgetContacts s).onXp fun x => { x with stopStage := none })
  if t.xp.xbase = 0 then t else requestPublication t

/-- The lane step ends when every blank row has been accepted (R184 step 4). -/
def laneStep (s : State) : State :=
  if s.xp.stopStage = some .lane ∧ allAccepted s = true then enterStopped s else s

/-- The STOPPING sequence goes as far as it can: each step begins when the one before it has ended (R184). -/
def advanceStop (s : State) : State :=
  if s.xp.run = .stopping then laneStep (pageStep (frameStep (sheetStep s))) else s

/-- A STOP in RUNNING enters STOPPING (R184). -/
def enterStopping (s : State) : State :=
  advanceStop
    (zeroDuties
      ((enterRun .stopping
          (s.onXp fun x => { x with postQueue := [], stopStage := some .sheet })).onWc
        fun x => { x with frameWanted := false }))

end Sys2Proof.Machine
end

