-- ==== Sys2Proof/Machine/Layout.lean ====
section
/-! DEFINITION. The layout block: its fields, its parameters with defaults and clamps, and the checks that a START makes
of it (R132, R182, R187, R188). -/

namespace Sys2Proof.Machine

/-- How a field of the layout block is read: the number in `n` bytes at an offset. -/
abbrev LayoutReader := (off n : Nat) → Nat

/-- The layout block that lies at an address of host memory (R181). -/
def layoutAt (m : List Host.Cell) (base : Nat) : LayoutReader := fun off n => leNat (Memory.readBytes m (base + off) n)

/-! ### Parameters -/

/-- A parameter of the layout block: its offset and size, its range and its default. -/
structure Param where
  off : Nat
  size : Nat
  lo : Nat
  hi : Nat
  dflt : Nat
  deriving DecidableEq, Repr

/-- The value that a parameter takes: the default when it is absent, the nearer end when it is out of range (R188). -/
def Param.value (rd : LayoutReader) (p : Param) : Nat :=
  let v := rd p.off p.size
  if v = allOnes p.size then p.dflt else clampNat v p.lo p.hi

/-- The clamps that a parameter makes: one when it is present and out of range (R183, R188). -/
def Param.clamps (rd : LayoutReader) (p : Param) : Nat :=
  let v := rd p.off p.size
  if v ≠ allOnes p.size ∧ clampNat v p.lo p.hi ≠ v then 1 else 0

/-- The rollover minute and the step limit (R35). -/
def pRollover : Param := ⟨0x20, 2, 0, 1439, 180⟩
def pStepLimit : Param := ⟨0x22, 2, 500, 30000, 3000⟩
/-- The timing parameters of departures (R12). -/
def pBoard : Param := ⟨0x24, 2, 0, 3600, 600⟩
def pClose : Param := ⟨0x26, 2, 0, 600, 60⟩
def pArrive : Param := ⟨0x28, 2, 0, 7200, 1800⟩
def pDepart : Param := ⟨0x2A, 2, 0, 600, 120⟩
def pGrace : Param := ⟨0x2C, 2, 0, 900, 60⟩
def pGone : Param := ⟨0x2E, 2, 0, 600, 60⟩
def pCancel : Param := ⟨0x30, 2, 0, 180, 15⟩
def pStale : Param := ⟨0x32, 2, 5, 240, 30⟩
/-- The flash time (R65) and the delay cue step (R12). -/
def pFlash : Param := ⟨0x34, 2, 0, 900, 120⟩
def pDelayStep : Param := ⟨0x36, 2, 1, 60, 5⟩
/-- The frame period and the full-refresh count (R107), and the hold time (R159). -/
def pFramePeriod : Param := ⟨0x38, 2, 200, 5000, 500⟩
def pHold : Param := ⟨0x3A, 2, 0, 5000, 500⟩
def pRefresh : Param := ⟨0x3C, 2, 1, 255, 120⟩
/-- The phrase bases (R154): every value but all ones is in range. -/
def pCharBase : Param := ⟨0x40, 2, 0, 65535, 0⟩
def pNumberBase : Param := ⟨0x42, 2, 0, 65535, 0⟩
def pHourBase : Param := ⟨0x44, 2, 0, 65535, 0⟩
def pMinuteBase : Param := ⟨0x46, 2, 0, 65535, 0⟩

/-- The general parameters. -/
def generalParams : List Param :=
  [pRollover, pStepLimit, pBoard, pClose, pArrive, pDepart, pGrace, pGone, pCancel, pStale, pFlash, pDelayStep,
   pFramePeriod, pHold, pRefresh, pCharBase, pNumberBase, pHourBase, pMinuteBase]

/-- The colour class of a service kind (R107). -/
def pColour (k : Nat) : Param := ⟨0x120 + k, 1, 0, 7, k⟩

/-- The default priorities of the cue kinds (R141). -/
def defaultPriorities : List Nat := [1, 1, 0, 2, 0, 2, 0, 1, 1, 1, 1]

/-- The priority of a cue kind (R141). -/
def pPriority (k : Nat) : Param := ⟨0x128 + k, 1, 0, 3, defaultPriorities.getD k 1⟩

/-- The kinds whose priority the layout gives: every one but NOTICE (R141). -/
def prioritisedKinds : List Nat := [0, 1, 2, 3, 4, 5, 7, 8, 9, 10]

/-- The filter time of platform `p` (R52). -/
def pFilter (p : Nat) : Param := ⟨0x140 + 8 * (p - 1) + 2, 2, 200, 10000, 2000⟩

/-- The pulse width of a STROBE line (R135). -/
def pStrobe (line : Nat) : Param := ⟨0x240 + 4 * line + 2, 2, 1, 255, 10⟩

/-- The parameters of dim channel `c` (R136). -/
def pDead (c : Nat) : Param := ⟨0x300 + 16 * c + 1, 1, 1, 63, 10⟩
def pDimBase (c : Nat) : Param := ⟨0x300 + 16 * c + 2, 2, 0, 1000, 500⟩
def pDimSlope (c : Nat) : Param := ⟨0x300 + 16 * c + 4, 2, 0, 1000, 0⟩
def pDimMin (c : Nat) : Param := ⟨0x300 + 16 * c + 6, 2, 0, 1000, 0⟩
def pDimMax (c : Nat) : Param := ⟨0x300 + 16 * c + 8, 2, 0, 1000, 1000⟩
def pNightStart (c : Nat) : Param := ⟨0x300 + 16 * c + 10, 2, 0, 1439, 0⟩
def pNightEnd (c : Nat) : Param := ⟨0x300 + 16 * c + 12, 2, 0, 1439, 0⟩
def pNightMax (c : Nat) : Param := ⟨0x300 + 16 * c + 14, 2, 0, 1000, 1000⟩

/-- The parameters of a channel, each with a range. -/
def dimParams (c : Nat) : List Param :=
  [pDead c, pDimBase c, pDimSlope c, pDimMin c, pDimMax c, pNightStart c, pNightEnd c, pNightMax c]

/-- The horizon and the dwell of the board at place `i` of the panel table (R106). -/
def pHorizon (i : Nat) : Param := ⟨0x340 + 16 * i + 12, 2, 10, 1440, 180⟩
def pDwell (i : Nat) : Param := ⟨0x340 + 16 * i + 14, 1, 3, 60, 10⟩

/-! ### Counts and placements -/

/-- The platform count, the panel count, the name table size and the tally size (R187). -/
def platformCountOf (rd : LayoutReader) : Nat := rd 0x06 1
def panelCountOf (rd : LayoutReader) : Nat := rd 0x07 1
def nameSizeOf (rd : LayoutReader) : Nat := rd 0x10 2
def tallySizeOf (rd : LayoutReader) : Nat := rd 0x12 2
/-- The origins of the name table and of the tally array: bits 47..0 of 8 bytes (R187). -/
def nameOriginOf (rd : LayoutReader) : Nat := rd 0x08 8 % Config.addrModulus
def tallyOriginOf (rd : LayoutReader) : Nat := rd 0x18 8 % Config.addrModulus

/-! ### Field lines -/

/-- The edge option of a MARK line (R187). -/
def markEdgeOf (opt : Nat) : MarkEdge :=
  if opt % 4 = 0 then .rising else if opt % 4 = 1 then .falling else .both

/-- The function that the line table gives a line; none for a code above 7 (R187, R188). -/
def lineFnOf (rd : LayoutReader) (line : Nat) : Option LineFn :=
  let opt := rd (0x240 + 4 * line + 1) 1
  match rd (0x240 + 4 * line) 1 with
  | 0 => some .idle
  | 1 => some (.contact (bitAt opt 0))
  | 2 => some (.mark (markEdgeOf opt))
  | 3 => some (.lane (opt % 16))
  | 4 => some (.strobe (bitAt opt 0) ((pStrobe line).value rd))
  | 5 => some .dimTrue
  | 6 => some .dimComp
  | 7 => some .analog
  | _ => none

/-- The functions that a line may have (R131). -/
def fnAllowed (line : Nat) : LineFn → Bool
  | .idle => true
  | .contact _ => decide (line < 32) || decide (44 ≤ line)
  | .mark _ | .lane _ => decide (line < 32)
  | .strobe _ _ => decide (line < 40) || decide (44 ≤ line)
  | .dimTrue => decide (32 ≤ line) && decide (line < 40) && decide (line % 2 = 0)
  | .dimComp => decide (32 ≤ line) && decide (line < 40) && decide (line % 2 = 1)
  | .analog => decide (40 ≤ line) && decide (line < 44)

/-- The new line table; a line with no known function, which fails its check, stands as IDLE. -/
def newFn (rd : LayoutReader) (line : Nat) : LineFn := (lineFnOf rd line).getD .idle

/-- The function of a MARK line. -/
def LineFn.isMark : LineFn → Bool
  | .mark _ => true
  | _ => false

/-- The function of a CONTACT line. -/
def LineFn.isContact : LineFn → Bool
  | .contact _ => true
  | _ => false

/-- The lane of a LANE line. -/
def LineFn.laneOf : LineFn → Option Nat
  | .lane n => some n
  | _ => none

/-- A dim function. -/
def LineFn.isDim : LineFn → Bool
  | .dimTrue | .dimComp => true
  | _ => false

/-- A dim channel is configured in the new line table (R136). -/
def newDim (rd : LayoutReader) (c : Nat) : Bool :=
  decide (newFn rd (32 + 2 * c) = .dimTrue) && decide (newFn rd (33 + 2 * c) = .dimComp)

/-- The sensor of a dim channel: any value above 3 is none (R187). -/
def sensorOf (rd : LayoutReader) (c : Nat) : Option Nat :=
  let v := rd (0x300 + 16 * c) 1
  if v ≤ 3 then some v else none

/-- The contact line of a platform; all ones for none (R187). -/
def contactLineOf (rd : LayoutReader) (p : Nat) : Option Nat := optionalField 1 (rd (0x140 + 8 * (p - 1)) 1)

/-! ### Checks -/

/-- A start fault: its code and its index (R182). -/
structure StartFault where
  code : Nat
  index : Nat
  deriving DecidableEq, Repr

/-- The first place of a range at which a condition holds, as a fault of a code with an index taken from the place. -/
def firstBad (code n : Nat) (index : Nat → Nat) (bad : Nat → Bool) : Option StartFault :=
  ((List.range n).find? bad).map fun i => ⟨code, index i⟩

/-- The first fault of a list of checks made in order. -/
def firstFault : List (Option StartFault) → Option StartFault
  | [] => none
  | some f :: _ => some f
  | none :: rest => firstFault rest

/-- BAD_MAGIC (R188). -/
def checkMagic (rd : LayoutReader) : Option StartFault :=
  if rd 0 4 = 0x4C345744 ∧ rd 4 2 = 1 then none else some ⟨3, 0⟩

/-- BAD_COUNT, with its index (R182). -/
def checkCounts (rd : LayoutReader) : Option StartFault :=
  if platformCountOf rd = 0 ∨ 32 < platformCountOf rd then some ⟨4, 1⟩
  else if 48 < panelCountOf rd then some ⟨4, 2⟩
  else if nameSizeOf rd = 0 ∨ 4096 < nameSizeOf rd then some ⟨4, 3⟩
  else if 1024 < tallySizeOf rd then some ⟨4, 4⟩
  else none

/-- LINE_FUNCTION: the lowest line whose function is not allowed on it (R132). -/
def checkFunctions (rd : LayoutReader) : Option StartFault :=
  firstBad 5 48 (fun i => i) fun i => !((lineFnOf rd i).any (fnAllowed i))

/-- A second MARK line (R132). -/
def secondMark (rd : LayoutReader) (i : Nat) : Bool :=
  (newFn rd i).isMark && (List.range i).any fun j => (newFn rd j).isMark

/-- A second LANE line of one lane (R132). -/
def secondLane (rd : LayoutReader) (i : Nat) : Bool :=
  (newFn rd i).laneOf.isSome && (List.range i).any fun j => (newFn rd j).laneOf == (newFn rd i).laneOf

/-- A dim pair with one line IDLE or STROBE and the other a dim line (R132). -/
def brokenPair (rd : LayoutReader) (c : Nat) : Bool :=
  xor (newFn rd (32 + 2 * c)).isDim (newFn rd (33 + 2 * c)).isDim

/-- A dim channel whose sensor's line is not ANALOG (R132). -/
def sensorMissing (rd : LayoutReader) (c : Nat) : Bool :=
  newDim rd c && (sensorOf rd c).any fun k => decide (newFn rd (40 + k) ≠ .analog)

/-- A platform, from 1, whose contact line is not a CONTACT line (R132). -/
def contactMissing (rd : LayoutReader) (p : Nat) : Bool :=
  (contactLineOf rd p).any fun l => decide (48 ≤ l) || !(newFn rd l).isContact

/-- A platform, from 1, whose contact line an earlier platform names (R132). -/
def contactShared (rd : LayoutReader) (p : Nat) : Bool :=
  (contactLineOf rd p).isSome && (List.range (p - 1)).any fun q => contactLineOf rd (q + 1) == contactLineOf rd p

/-- LINE_CONFLICT: its causes in their order, each at its lowest place (R132, log 29). -/
def checkConflicts (rd : LayoutReader) : Option StartFault :=
  firstFault
    [firstBad 6 48 (fun i => i) (secondMark rd),
     firstBad 6 48 (fun i => i) (secondLane rd),
     firstBad 6 4 (fun c => 32 + 2 * c) (brokenPair rd),
     firstBad 6 4 (fun c => 32 + 2 * c) (sensorMissing rd),
     firstBad 6 (platformCountOf rd) (· + 1) (fun i => contactMissing rd (i + 1)),
     firstBad 6 (platformCountOf rd) (· + 1) (fun i => contactShared rd (i + 1))]

/-- The offset of a panel entry. -/
def panelOff (i : Nat) : Nat := 0x340 + 16 * i

/-- The kind code, the lane and the address of a panel (R187). -/
def panelKindOf (rd : LayoutReader) (i : Nat) : Nat := rd (panelOff i) 1 % 4
def panelLaneOf (rd : LayoutReader) (i : Nat) : Nat := rd (panelOff i + 1) 1 % 16
def panelAddrOf (rd : LayoutReader) (i : Nat) : Nat := rd (panelOff i + 2) 1 % 4

/-- A board whose rows or fixed rows are out of range (R106). -/
def badRows (rd : LayoutReader) (i : Nat) : Bool :=
  let rows := rd (panelOff i + 4) 1
  decide (panelKindOf rd i = 0) && (decide (rows < 2) || decide (24 < rows) || decide (rows < rd (panelOff i + 5) 1))

/-- A PLATFORM panel whose platform is 0 or above the platform count (R188). -/
def badPanelPlatform (rd : LayoutReader) (i : Nat) : Bool :=
  let p := rd (panelOff i + 6) 1
  decide (panelKindOf rd i = 1) && (decide (p = 0) || decide (platformCountOf rd < p))

/-- A third CLOCK panel on one lane (R132). -/
def thirdClock (rd : LayoutReader) (i : Nat) : Bool :=
  decide (panelKindOf rd i = 2)
    && decide
        (2 ≤ ((List.range i).filter fun j =>
          decide (panelKindOf rd j = 2) && decide (panelLaneOf rd j = panelLaneOf rd i)).length)

/-- A panel that repeats the lane and address of an earlier one (R106). -/
def repeatedPlace (rd : LayoutReader) (i : Nat) : Bool :=
  (List.range i).any fun j =>
    decide (panelLaneOf rd j = panelLaneOf rd i) && decide (panelAddrOf rd j = panelAddrOf rd i)

/-- A panel whose lane has no LANE line (R106, R132). -/
def noLane (rd : LayoutReader) (i : Nat) : Bool :=
  !((List.range 48).any fun l => (newFn rd l).laneOf == some (panelLaneOf rd i))

/-- PANEL_BAD (R182). -/
def checkPanels (rd : LayoutReader) : Option StartFault :=
  firstBad 7 (panelCountOf rd) (fun i => i) fun i =>
    repeatedPlace rd i || badRows rd i || badPanelPlatform rd i || noLane rd i || thirdClock rd i

/-- The offset of the template of a kind, and its item count. -/
def templateOff (k : Nat) : Nat := 0x640 + 68 * k
def itemCountOf (rd : LayoutReader) (k : Nat) : Nat := rd (templateOff k) 1

/-- The `i`-th item of the template of kind `k`; none for an unknown kind (R187; the kind is 1 byte, log 32). -/
def itemOf (rd : LayoutReader) (k i : Nat) : Option Item :=
  match rd (templateOff k + 4 + 4 * i) 1 with
  | 1 => some (.literal (rd (templateOff k + 6 + 4 * i) 2))
  | 2 => some .runLabel
  | 3 => some .dest
  | 4 => some .calls
  | 5 => some .platform
  | 6 => some .oldPlatform
  | 7 => some .schedTime
  | 8 => some .expTime
  | 9 => some .delayMin
  | 10 => some .reason
  | 11 => some .noticeText
  | _ => none

/-- TEMPLATE_BAD (R182, R188). Of several bad templates the one of the lowest kind gives the index: R182 gives no order among
templates, as it does among panels (DESIGN CHOICE, log 45). -/
def checkTemplates (rd : LayoutReader) : Option StartFault :=
  firstBad 8 11 (fun k => k) fun k =>
    decide (16 < itemCountOf rd k) || (List.range (itemCountOf rd k)).any fun i => (itemOf rd k i).isNone

/-- The checks of a layout block in the order of R182: the first fault. -/
def checkLayout (rd : LayoutReader) : Option StartFault :=
  firstFault
    [checkMagic rd, checkCounts rd, checkFunctions rd, checkConflicts rd, checkPanels rd, checkTemplates rd]

/-! ### The clamped-parameter count -/

/-- The clamps of a list of parameters. -/
def clampsOf (rd : LayoutReader) (ps : List Param) : Nat := (ps.map (Param.clamps rd)).sum

/-- The clamps of a configured dim channel, with the one that takes max equal to min (R136). -/
def dimClamps (rd : LayoutReader) (c : Nat) : Nat :=
  if newDim rd c then
    clampsOf rd (dimParams c) + (if (pDimMax c).value rd < (pDimMin c).value rd then 1 else 0)
  else 0

/-- The clamps of a STROBE line (R135). -/
def strobeClamps (rd : LayoutReader) (line : Nat) : Nat :=
  match newFn rd line with
  | .strobe _ _ => (pStrobe line).clamps rd
  | _ => 0

/-- The clamps of a board (R106). -/
def boardClamps (rd : LayoutReader) (i : Nat) : Nat :=
  if panelKindOf rd i = 0 then clampsOf rd [pHorizon i, pDwell i] else 0

/-- The number of clamps that a START makes (R183 step 1). -/
def layoutClamps (rd : LayoutReader) : Nat :=
  clampsOf rd generalParams
    + clampsOf rd ((List.range 8).map pColour)
    + clampsOf rd (prioritisedKinds.map pPriority)
    + clampsOf rd ((List.range (platformCountOf rd)).map fun i => pFilter (i + 1))
    + ((List.range 48).map (strobeClamps rd)).sum
    + ((List.range 4).map (dimClamps rd)).sum
    + ((List.range (panelCountOf rd)).map (boardClamps rd)).sum

end Sys2Proof.Machine
end

