-- ==== Sys2Proof/Machine/Start.lean ====
section
/-! DEFINITION. START: the layout read, a failed start, and the application of a layout (R130 to R133, R159, R166, R181 to
R183). -/

namespace Sys2Proof.Machine

/-- A START in STOPPED (R181). -/
def beginStart (s : State) : State :=
  if s.xp.xbase = 0 then s.onXp fun x => { x with faultCode := 1, faultIndex := 0 }
  else request (readReq .layoutRead (areaBase s) 8192) (enterRun .starting s)

/-- A start ends with a fault: the part enters STOPPED, RUNSTAT takes the code and the index, and the status page is
published (R182). -/
def failStart (f : StartFault) (s : State) : State :=
  requestPublication
    ((enterRun .stopped s).onXp fun x => { x with faultCode := f.code, faultIndex := f.index, stopRequested := false })

/-! ### Step 1 of R183: parameters -/

/-- The parameters of the Roster Unit (R12, R65). -/
def newRosterParams (rd : LayoutReader) : RosterParams where
  board := pBoard.value rd
  close := pClose.value rd
  arrive := pArrive.value rd
  depart := pDepart.value rd
  grace := pGrace.value rd
  gone := pGone.value rd
  cancel := pCancel.value rd
  stale := pStale.value rd
  delayStep := pDelayStep.value rd
  flashTime := pFlash.value rd

/-- The fixed text at a place of their order; a name index as it stands (R187). -/
def fixedTextOf (rd : LayoutReader) (i : Nat) : Option Nat := some (rd (0x100 + 2 * i) 2)

/-- The twelve fixed texts (R187). -/
def newTexts (rd : LayoutReader) : FixedTexts where
  cancelled := fixedTextOf rd 0
  departed := fixedTextOf rd 1
  delayed := fixedTextOf rd 2
  closing := fixedTextOf rd 3
  boarding := fixedTextOf rd 4
  onTime := fixedTextOf rd 5
  expected := fixedTextOf rd 6
  minutes := fixedTextOf rd 7
  platformWord := fixedTextOf rd 8
  closedText := fixedTextOf rd 9
  noDepartures := fixedTextOf rd 10
  separator := fixedTextOf rd 11

/-- The configuration of the board at a place of the panel table (R106, R187). -/
def newBoard (rd : LayoutReader) (i : Nat) : BoardCfg where
  rows := rd (panelOff i + 4) 1
  fixed := rd (panelOff i + 5) 1
  noticeRow := bitAt (rd (panelOff i + 3) 1) 0
  platformMask := BitVec.ofNat 32 (rd (panelOff i + 8) 4)
  unassigned := bitAt (rd (panelOff i + 3) 1) 1
  kindMask := BitVec.ofNat 8 (rd (panelOff i + 7) 1)
  horizon := (pHorizon i).value rd
  dwell := (pDwell i).value rd

/-- The kind of the panel at a place of the panel table, with its configuration (R187). -/
def newKind (rd : LayoutReader) (i : Nat) : PanelKind :=
  match panelKindOf rd i with
  | 0 => .board (newBoard rd i)
  | 1 => .platform (rd (panelOff i + 6) 1)
  | 2 => .clock (bitAt (rd (panelOff i + 3) 1) 0)
  | _ => .strip

/-- A panel of the new layout, with an empty image and its page set as R117 gives (R126). -/
def newPanel (rd : LayoutReader) (u i : Nat) : Panel where
  kind := newKind rd i
  lane := panelLaneOf rd i
  addr := panelAddrOf rd i
  image := List.replicate (newKind rd i).rows none
  page := 0
  lastAdvance := u

/-- The template of a kind. -/
def newTemplate (rd : LayoutReader) (k : Nat) : List Item := (List.range (itemCountOf rd k)).filterMap (itemOf rd k)

/-- The priorities of the cue kinds; that of NOTICE is not given and not read (R141). -/
def newPriorities (rd : LayoutReader) : List Nat :=
  (List.range 11).map fun k => if k = 6 then 0 else (pPriority k).value rd

/-- The Cue Sequencer's parameters (R141, R154, R159, R166). -/
def newCQ (rd : LayoutReader) (x : CQ) : CQ :=
  { x with
    holdTime := pHold.value rd
    priorities := newPriorities rd
    templates := (List.range 11).map (newTemplate rd)
    charBase := pCharBase.value rd
    numberBase := pNumberBase.value rd
    hourBase := pHourBase.value rd
    minuteBase := pMinuteBase.value rd
    andCode := optionalField 2 (rd 0x48 2)
    tallyOrigin := tallyOriginOf rd
    tallySize := tallySizeOf rd }

/-- The Wall Composer takes the layout (R106, R107, R117, R123, R126): the cache and the images are emptied, and a name
read in flight is used once (log 25) and still serves lookups of its index in the new layout (DESIGN CHOICE, log 47). A
waiting miss at or above the new name table size is not fetched (R104, R124). -/
def newWC (rd : LayoutReader) (u : Nat) (x : WC) : WC :=
  { x with
    panels := (List.range (panelCountOf rd)).map (newPanel rd u)
    cache := []
    fetch := x.fetch.map fun f => { f with once := true }
    misses := x.misses.filter fun m => decide (m.idx < nameSizeOf rd)
    framePeriod := pFramePeriod.value rd
    refreshCount := pRefresh.value rd
    texts := newTexts rd
    colours := (List.range 8).map fun k => (pColour k).value rd
    nameOrigin := nameOriginOf rd
    nameSize := nameSizeOf rd }

/-! ### Step 2: lanes and lines -/

/-- The two functions are both CONTACT or both MARK. -/
def sameSampled (a b : LineFn) : Bool := (a.isContact && b.isContact) || (a.isMark && b.isMark)

/-- A line takes its new function; one that becomes CONTACT or MARK takes its first sample (R131 to R133, log 9). -/
def newLine (rd : LayoutReader) (i : LineInputs) (line : Nat) (old : FieldLine) : FieldLine :=
  let fn := newFn rd line
  ⟨fn,
    if (fn.isContact || fn.isMark) && !sameSampled old.fn fn then
      fn.sampled (i.levels.getLsbD line) (i.driven.getLsbD line)
    else old.level,
    none⟩

/-- The parameters of a configured dim channel; max is taken equal to min when it is below it (R136). -/
def newDimParams (rd : LayoutReader) (c : Nat) : DimParams where
  sensor := sensorOf rd c
  base := (pDimBase c).value rd
  slope := (pDimSlope c).value rd
  min := (pDimMin c).value rd
  max := max ((pDimMin c).value rd) ((pDimMax c).value rd)
  nightStart := (pNightStart c).value rd
  nightEnd := (pNightEnd c).value rd
  nightMax := (pNightMax c).value rd
  dead := (pDead c).value rd

/-- A dim channel after START: duty 0, and the duty-0 levels when it is configured (R132, R136). -/
def newDimChannel (rd : LayoutReader) (c : Nat) (d : Dim) : Dim :=
  if newDim rd c then ⟨newDimParams rd c, 0, some (dimWaveform 0 (newDimParams rd c).dead)⟩ else ⟨d.par, 0, none⟩

/-- The Field Line Unit takes the layout (R130, R132, R133, R135, R136, R138). -/
def newFU (rd : LayoutReader) (i : LineInputs) (x : FU) : FU where
  lanes := x.lanes.map fun _ => Lane.reset
  lines := x.lines.zipIdx.map fun l => newLine rd i l.2 l.1
  dims := x.dims.zipIdx.map fun d => newDimChannel rd d.2 d.1
  sensors := x.sensors.map fun _ => []

/-! ### Step 3: platforms -/

/-- The platform record of the new layout (R52, R53). The entry of a platform above the count is not read (R188); its
record takes the values of reset (DESIGN CHOICE, log 35). -/
def newPlatform (rd : LayoutReader) (p : Nat) : PlatformRec :=
  if p ≤ platformCountOf rd then
    { PlatformRec.reset with
      line := contactLineOf rd p
      presentWhenLow := bitAt (rd (0x140 + 8 * (p - 1) + 1) 1) 0
      filter := (pFilter p).value rd }
  else PlatformRec.reset

/-- The Platform Unit takes the layout. -/
def newPU (rd : LayoutReader) : PU where
  platformCount := platformCountOf rd
  platforms := (List.range 32).map fun i => newPlatform rd (i + 1)

/-- A departure above the new platform count is unassigned, and returns to LISTED from BOARDING or CLOSING (R183
step 3). -/
def unassignDep (u : Nat) (d : Departure) : Departure :=
  { d with
    platform := none
    movedFrom := []
    flashEnd := none
    boardingCalled := none
    closingCalled := false
    state := if d.state.atGate then .listed else d.state
    stamp := if d.state.atGate then u else d.stamp }

/-- A moved-from list without the platforms above the count; left empty, its flash end is absent (R67). -/
def trimMovedFrom (count : Nat) (d : Departure) : Departure :=
  let kept := d.movedFrom.filter fun p => decide (p ≤ count)
  { d with movedFrom := kept, flashEnd := if kept.isEmpty then none else d.flashEnd }

/-- A departure meets the new platform count (R183 step 3). -/
def restartDep (count u : Nat) (d : Departure) : Departure :=
  if d.platform.any fun p => decide (count < p) then unassignDep u d else trimMovedFrom count d

/-- A notice of PLATFORM scope above the platform count (R100). -/
def noticeOutOfService (count : Nat) (n : Notice) : Bool :=
  match n.scope with
  | .platform p => decide (count < p)
  | _ => false

/-- The Roster Unit takes the layout. -/
def newRU (rd : LayoutReader) (u : Nat) (x : RU) : RU :=
  { x with
    par := newRosterParams rd
    roster := x.roster.map (restartDep (platformCountOf rd) u)
    notices := x.notices.filter fun n => !noticeOutOfService (platformCountOf rd) n }

/-! ### The application -/

/-- Steps 1 to 5 of R183: every block takes the layout, and the part enters RUNNING. -/
def takeLayout (rd : LayoutReader) (i : LineInputs) (s : State) : State :=
  let u := s.sc.u
  enterRun .running
    { s with
      xp := { s.xp with clampCount := layoutClamps rd % Config.countModulus, faultCode := 0, faultIndex := 0 }
      ru := newRU rd u s.ru
      pu := newPU rd
      sc := { s.sc with rollover := pRollover.value rd, stepLimit := pStepLimit.value rd }
      wc := newWC rd u s.wc
      fu := newFU rd i s.fu
      cq := newCQ rd s.cq }

/-- Step 6 of R183: baselines, clock records, and the first frame. -/
def firstWork (s : State) : State :=
  requestFrame (clockRecords ((List.range s.pu.platformCount).foldl (fun acc i => startBaseline (i + 1) acc) s))

/-- The layout read has completed (R181 to R183). -/
def layoutReturned (rd : LayoutReader) (i : LineInputs) (s : State) : State :=
  if s.xp.stopRequested then failStart ⟨9, 0⟩ s
  else
    match checkLayout rd with
    | some f => failStart f s
    | none => firstWork (takeLayout rd i s)

/-- The layout read has failed (R181, R182). -/
def layoutFailed (s : State) : State := failStart ⟨if s.xp.stopRequested then 9 else 2, 0⟩ s

end Sys2Proof.Machine
end

