-- ==== Sys2Proof/Machine/Completions.lean ====
section
/-! DEFINITION. The ends of memory requests: what each answer, fault or time-out does to the block that asked (R73, R124,
R160 to R164, R168, R174, R176 to R178, R181). -/

namespace Sys2Proof.Machine

/-- The request of an access completes, if it is the one on the link: its block acts, the STOPPING sequence goes on, and
the arbiter starts the next request (R176, log 11). An answer that no request on the link awaits is discarded (R177,
R185, log 3). -/
def complete (a : Access) (act : MemReq → State → State) (s : State) : State :=
  match s.xp.inFlight with
  | some f => if f.req.access = a then releaseLink (advanceStop (act f.req s)) else s
  | none => s

/-- What a completed read does with its data (log 5). -/
def onData (act : List Byte → State → State) (r : MemReq) (s : State) : State := act (readData r s) s

/-- What a completed write does, once its bytes stand in host memory (log 5). -/
def onLanded (act : State → State) (r : MemReq) (s : State) : State := act (landWrite r s)

/-- A name has come back to the blocks that asked: the frame and the cue write go on (R111, R124, R157). -/
def nameAnswered (result : Option NameText) (s : State) : State :=
  progressWrite (progressFrame (progressNames (nameReturned result s)))

/-- A page that could not be read is taken as not FREE (R160). -/
def stateWordFailed (s : State) : State := setRetry s

/-- What the failure of an access does to the block that made it (the table of R177). -/
def accessFailed (a : Access) (s : State) : State :=
  match a with
  | .layoutRead => layoutFailed s
  | .headerRead | .takenWrite | .unitRead => fetchCompleted none s
  | .resultWrite | .doneWrite => flightEnds s
  | .nameRead => nameAnswered none s
  | .stateWordRead => stateWordFailed s
  | .openWrite | .recordWrite | .pageHeaderWrite | .closedWrite => pageWriteFault s
  | .tallyHalfRead | .tallyWordRead | .tallyHalfWrite | .tallyWordWrite => tallyFailed s
  | .publishCountWrite | .publishContentWrite => publicationFailed s

/-- A memory fault of the request on the link (R177): what a write leaves in memory is free (log 6), but for a failed DONE
write, which leaves the slot TAKEN (R74, R174). -/
def requestFailed (f : InFlight) (s : State) : State :=
  let s1 := recordFault f.req (if f.req.access.mayLand then landFaulted f.req s else s)
  releaseLink (advanceStop (accessFailed f.req.access s1))

/-- The host link answers the request on the link with an error; with no request on it there is nothing to fail. -/
def linkFault (s : State) : State :=
  match s.xp.inFlight with
  | some f => requestFailed f s
  | none => s

/-- The request on the link has timed out: 50 ms of U after it started (R177). -/
def timedOut (s : State) : Bool := s.xp.inFlight.any fun f => decide (f.since + Config.requestTimeoutMs ≤ s.sc.u)

end Sys2Proof.Machine
end

