-- ==== Sys2Proof/Machine/EventCommands.lean ====
section
/-! DEFINITION. The meanings of the commands that come from the field lines and from one block to another. -/

namespace Sys2Proof.Machine

/-- MARK (R40 to R45, R133, R134): a sample of the MARK line with a new level. -/
def execMark (level : Bool) (s : State) : Host.Outcome State Fault Refusal := .next (markSample level s)

/-- CONTACT_LEVEL_CHANGE (R54, R131, R133): the line is sampled with a level on it, driven from outside or not. -/
def execContactLevelChange (line : Nat) (input : LineInput) (s : State) : Host.Outcome State Fault Refusal :=
  .next (contactSample line input.level input.driven s)

/-- LANE_TRANSMISSION_COMPLETE (R113, R127, R129, R184). -/
def execLaneTransmissionComplete (lane : Nat) (s : State) : Host.Outcome State Fault Refusal :=
  .next (advanceStop (progressFrame (transmissionDone lane s)))

/-- ABSENT_EDGE (R19, R64). -/
def execAbsentEdge (platform : Nat) (s : State) : Host.Outcome State Fault Refusal := .next (absentEdge platform s)

/-- PRESENT_EDGE (R63): it changes no departure. -/
def execPresentEdge (_platform : Nat) (s : State) : Host.Outcome State Fault Refusal := .next s

/-- FRAME_REQUEST (R108). -/
def execFrameRequest (s : State) : Host.Outcome State Fault Refusal := .next (requestFrame s)

/-- CUE_REQUEST (R143 to R152). A request for a CLOCK report raises CLOCK_EVENT as well (R50, R175). -/
def execCueRequest (request : CueReq) (s : State) : Host.Outcome State Fault Refusal :=
  .next
    (match request with
     | .clock sub offset => clockReport sub offset s
     | r => takeRequest r s)

/-- REMOVAL_REQUEST (R143, R147). -/
def execRemovalRequest (ids : List Nat) (s : State) : Host.Outcome State Fault Refusal := .next (takeRemoval ids s)

end Sys2Proof.Machine
end

