-- ==== Sys2Proof/Machine/HostCommands.lean ====
section
/-! DEFINITION. The meanings of the commands that the host gives: register writes and writes of host memory. -/

namespace Sys2Proof.Machine

/-- START (R180, R181): taken in STOPPED and ignored in every other run state. -/
def execStart (s : State) : Host.Outcome State Fault Refusal :=
  .next (if s.xp.run = .stopped then beginStart s else s)

/-- STOP (R180, R181, R184): enters STOPPING from RUNNING, marks a start in STARTING, and is ignored otherwise. -/
def execStop (s : State) : Host.Outcome State Fault Refusal :=
  .next
    (match s.xp.run with
     | .running => enterStopping s
     | .starting => s.onXp fun x => { x with stopRequested := true }
     | .stopped | .stopping => s)

/-- Every block at its reset values (R185); host memory, the commands that wait and the counter of free values are not
the part's (log 8). -/
def resetPart (s : State) : State :=
  { State.reset with mem := s.mem, pending := s.pending, freeCount := s.freeCount }

/-- RESET (R180, R185). -/
def execReset (s : State) : Host.Outcome State Fault Refusal := .next (resetPart s)

/-- POWER_ON_RESET (R185): the reset pin does what a RESET command does. -/
def execPowerOnReset (s : State) : Host.Outcome State Fault Refusal := .next (resetPart s)

/-- POST (R173). -/
def execPost (value : Word) (s : State) : Host.Outcome State Fault Refusal := .next (takePost value.toNat s)

/-- A write to XBASE (R169): taken in STOPPED alone. -/
def execXbaseWrite (value : Word) (s : State) : Host.Outcome State Fault Refusal :=
  .next (if s.xp.run = .stopped then s.onXp fun x => { x with xbase := value } else s)

/-- A write to ATTN clears each flag whose bit is written 1 (R175). -/
def execAttnWrite (value : Word) (s : State) : Host.Outcome State Fault Refusal :=
  .next (s.onXp fun x => { x with attn := x.attn &&& ~~~(value.truncate 7) })

/-- A write to ATTNEN replaces all seven enables; bits above 6 are ignored (R171, R175). -/
def execAttnenWrite (value : Word) (s : State) : Host.Outcome State Fault Refusal :=
  .next (s.onXp fun x => { x with attnen := value.truncate 7 })

/-- An access that R171 ignores. -/
def execRegisterWriteIgnored (_access : IgnoredWrite) (s : State) : Host.Outcome State Fault Refusal := .next s

/-- The host writes its own memory (R1); bytes past the last 48-bit address do not exist. -/
def execHostMemoryWrite (addr : Addr) (bytes : List Byte) (s : State) : Host.Outcome State Fault Refusal :=
  if addr.toNat + bytes.length ≤ Config.addrModulus then
    .next (s.onMem fun m => Memory.writeBytes m addr.toNat bytes)
  else .fault .outsideAddressSpace

end Sys2Proof.Machine
end

