-- ==== Sys2Proof/Machine/MemoryCommands.lean ====
section
/-! DEFINITION. The meanings of the commands that answer a memory request of the part. -/

namespace Sys2Proof.Machine

/-- HEADER_READ_COMPLETE (R71, R174 steps 1 and 2). -/
def execHeaderReadComplete (s : State) : Host.Outcome State Fault Refusal :=
  .next (complete .headerRead (onData headerReturned) s)

/-- TAKEN_WRITE_COMPLETE (R174 steps 2 and 3). -/
def execTakenWriteComplete (s : State) : Host.Outcome State Fault Refusal :=
  .next (complete .takenWrite (onLanded takenWritten) s)

/-- FETCH_COMPLETION (R72, R174 steps 3 and 4): the entry units have been read. -/
def execFetchCompletion (s : State) : Host.Outcome State Fault Refusal :=
  .next (complete .unitRead (onData fun bs => fetchCompleted (some bs)) s)

/-- RESULT_WRITE_COMPLETE (R174 steps 4 and 5). -/
def execResultWriteComplete (s : State) : Host.Outcome State Fault Refusal :=
  .next (complete .resultWrite (onLanded resultWritten) s)

/-- DONE_WRITE_COMPLETE (R174 step 5). -/
def execDoneWriteComplete (s : State) : Host.Outcome State Fault Refusal :=
  .next (complete .doneWrite (onLanded doneWritten) s)

/-- LAYOUT_READ_COMPLETE (R181 to R183), with what stands on the field lines at that moment (log 9). -/
def execLayoutReadComplete (inputs : LineInputs) (s : State) : Host.Outcome State Fault Refusal :=
  .next (complete .layoutRead (fun r t => layoutReturned (layoutAt t.mem r.addr) inputs t) s)

/-- NAME_READ_COMPLETE (R124, R125, R193, R194). -/
def execNameReadComplete (s : State) : Host.Outcome State Fault Refusal :=
  .next (complete .nameRead (onData fun bs => nameAnswered (decodeName bs)) s)

/-- STATE_WORD_READ_COMPLETE (R158, R160). -/
def execStateWordReadComplete (s : State) : Host.Outcome State Fault Refusal :=
  .next (complete .stateWordRead (onData fun bs => stateWordReturned (leNat bs)) s)

/-- OPEN_WRITE_COMPLETE (R160). -/
def execOpenWriteComplete (s : State) : Host.Outcome State Fault Refusal :=
  .next (complete .openWrite (onLanded openWritten) s)

/-- CUE_RECORD_WRITE_COMPLETE (R161, R162). -/
def execCueRecordWriteComplete (s : State) : Host.Outcome State Fault Refusal :=
  .next (complete .recordWrite (onLanded recordWritten) s)

/-- PAGE_HEADER_WRITE_COMPLETE (R163 step 3). -/
def execPageHeaderWriteComplete (s : State) : Host.Outcome State Fault Refusal :=
  .next (complete .pageHeaderWrite (onLanded pageHeaderWritten) s)

/-- CLOSED_WRITE_COMPLETE (R163 steps 4 and 5). -/
def execClosedWriteComplete (s : State) : Host.Outcome State Fault Refusal :=
  .next (complete .closedWrite (onLanded pageClosed) s)

/-- TALLY_HALFWORD_READ_COMPLETE (R168). -/
def execTallyHalfwordReadComplete (s : State) : Host.Outcome State Fault Refusal :=
  .next (complete .tallyHalfRead (onData fun bs => tallyHalfRead (leNat bs)) s)

/-- TALLY_WORD_READ_COMPLETE (R168). -/
def execTallyWordReadComplete (s : State) : Host.Outcome State Fault Refusal :=
  .next (complete .tallyWordRead (onData fun bs => tallyWordRead (leNat bs)) s)

/-- TALLY_HALFWORD_WRITE_COMPLETE (R168). -/
def execTallyHalfwordWriteComplete (s : State) : Host.Outcome State Fault Refusal :=
  .next (complete .tallyHalfWrite (onLanded tallyHalfWritten) s)

/-- TALLY_WORD_WRITE_COMPLETE (R168). -/
def execTallyWordWriteComplete (s : State) : Host.Outcome State Fault Refusal :=
  .next (complete .tallyWordWrite (onLanded tallyWordWritten) s)

/-- PUBLISH_COUNT_WRITE_COMPLETE (R178 steps 2 and 4). -/
def execPublishCountWriteComplete (s : State) : Host.Outcome State Fault Refusal :=
  .next (complete .publishCountWrite (onLanded publishCountWritten) s)

/-- PUBLISH_CONTENT_WRITE_COMPLETE (R178 step 3). -/
def execPublishContentWriteComplete (s : State) : Host.Outcome State Fault Refusal :=
  .next (complete .publishContentWrite (onLanded publishContentWritten) s)

/-- MEMORY_FAULT (R177): the host link answers the request on the link with an error. -/
def execMemoryFault (s : State) : Host.Outcome State Fault Refusal := .next (linkFault s)

/-- MEMORY_REQUEST_TIMEOUT (R177): 50 ms of U after the request started. -/
def execMemoryRequestTimeout (s : State) : Host.Outcome State Fault Refusal :=
  .next (if timedOut s then linkFault s else s)

end Sys2Proof.Machine
end

