-- ==== Sys2Proof/Machine/TimeCommands.lean ====
section
/-! DEFINITION. The meanings of the commands that running time and station time bring. One that is not due changes
nothing (log 3). -/

namespace Sys2Proof.Machine

/-- RUNNING_TICK (R13, R32, R139, R140): an evaluation pass and a ramp step of each dim channel, both in RUNNING. -/
def execRunningTick (s : State) : Host.Outcome State Fault Refusal :=
  .next (if atRunningTick s then rampDims (evaluate s) else s)

/-- FLASH_END (R67): the flashes that end at a running tick. -/
def execFlashEnd (s : State) : Host.Outcome State Fault Refusal := .next (if atRunningTick s then endFlashes s else s)

/-- NOTICE_EXPIRY (R98, R99): the notices that expire at a running tick. -/
def execNoticeExpiry (s : State) : Host.Outcome State Fault Refusal :=
  .next (if atRunningTick s then expireNotices s else s)

/-- NOTICE_REPEAT (R102): the notices that are spoken again at a running tick. -/
def execNoticeRepeat (s : State) : Host.Outcome State Fault Refusal :=
  .next (if atRunningTick s then repeatNotices s else s)

/-- SLEW_POINT (R43), in HOLDOVER or TRACKING. -/
def execSlewPoint (s : State) : Host.Outcome State Fault Refusal :=
  .next (if atSlewPoint s && clockSet s then slewPoint s else s)

/-- STATION_SECOND (R38, R39, R121); none is issued in UNSET. -/
def execStationSecond (s : State) : Host.Outcome State Fault Refusal :=
  .next (if clockSet s then takeStationSecond s else s)

/-- STATION_MINUTE (R38, R39); none is issued in UNSET. -/
def execStationMinute (s : State) : Host.Outcome State Fault Refusal :=
  .next (if clockSet s then takeStationMinute s else s)

/-- T advances across the end of the day (R34, R38). -/
def dayEnds (s : State) : Bool := clockSet s && decide (s.sc.t + 1 = Config.dayMs)

/-- DAY_ROLLOVER (R34, R38): the advance that brings T to the end of the day, with its rollover, its station second and
its station minute. -/
def execDayRollover (s : State) : Host.Outcome State Fault Refusal := .next (if dayEnds s then advance 1 s else s)

/-- HOLDOVER_TIMEOUT (R46). -/
def execHoldoverTimeout (s : State) : Host.Outcome State Fault Refusal :=
  .next (if holdoverDue s then enterHoldover s else s)

/-- PENDING_CHANGE_EXPIRY (R55 to R57, R59). -/
def execPendingChangeExpiry (platform : Nat) (s : State) : Host.Outcome State Fault Refusal :=
  .next
    (match pendingDue s platform with
     | some c => pendingExpired platform c.present s
     | none => s)

/-- U has advanced by the frame period since the snapshot of the last frame (R108). -/
def framePeriodDue (s : State) : Bool := s.wc.lastSnapshot.any fun l => decide (l + s.wc.framePeriod ≤ s.sc.u)

/-- FRAME_PERIOD (R108). -/
def execFramePeriod (s : State) : Host.Outcome State Fault Refusal :=
  .next (if framePeriodDue s then requestFrame s else s)

/-- PAGE_RETRY (R160). -/
def execPageRetry (s : State) : Host.Outcome State Fault Refusal := .next (retryReached s)

/-- HOLD_EXPIRY (R162, R163). -/
def execHoldExpiry (s : State) : Host.Outcome State Fault Refusal := .next (holdExpired s)

/-- STROBE_PULSE_END (R135). -/
def execStrobePulseEnd (line : Nat) (s : State) : Host.Outcome State Fault Refusal := .next (endPulse line s)

/-- DIM_PERIOD_START (R137). -/
def execDimPeriodStart (s : State) : Host.Outcome State Fault Refusal := .next (dimPeriod s)

/-- The reading of sensor `k` among four. -/
def sensorReading (r0 r1 r2 r3 : BitVec 10) (k : Nat) : Nat :=
  match k with
  | 0 => r0.toNat
  | 1 => r1.toNat
  | 2 => r2.toNat
  | _ => r3.toNat

/-- SENSOR_SAMPLE (R138): at a whole multiple of 100 of U, with the readings of L40 to L43 (log 10). -/
def execSensorSample (r0 r1 r2 r3 : BitVec 10) (s : State) : Host.Outcome State Fault Refusal :=
  .next (if atSlewPoint s then sampleSensors (sensorReading r0 r1 r2 r3) s else s)

end Sys2Proof.Machine
end

