-- ==== Sys2Proof/Machine/Dispatch.lean ====
section
/-! DEFINITION. The meaning of every command: one arm for each constructor of Instr. -/

namespace Sys2Proof.Machine

/-- The effect of a command on everything but the queue. -/
def exec (i : Instr) (s : State) : Host.Outcome State Fault Refusal :=
  match i with
  | .start => Sys2Proof.Machine.execStart s
  | .stop => Sys2Proof.Machine.execStop s
  | .reset => Sys2Proof.Machine.execReset s
  | .powerOnReset => Sys2Proof.Machine.execPowerOnReset s
  | .post value => Sys2Proof.Machine.execPost value s
  | .xbaseWrite value => Sys2Proof.Machine.execXbaseWrite value s
  | .attnWrite value => Sys2Proof.Machine.execAttnWrite value s
  | .attnenWrite value => Sys2Proof.Machine.execAttnenWrite value s
  | .registerWriteIgnored access => Sys2Proof.Machine.execRegisterWriteIgnored access s
  | .headerReadComplete => Sys2Proof.Machine.execHeaderReadComplete s
  | .takenWriteComplete => Sys2Proof.Machine.execTakenWriteComplete s
  | .fetchCompletion => Sys2Proof.Machine.execFetchCompletion s
  | .resultWriteComplete => Sys2Proof.Machine.execResultWriteComplete s
  | .doneWriteComplete => Sys2Proof.Machine.execDoneWriteComplete s
  | .layoutReadComplete inputs => Sys2Proof.Machine.execLayoutReadComplete inputs s
  | .runningTick => Sys2Proof.Machine.execRunningTick s
  | .flashEnd => Sys2Proof.Machine.execFlashEnd s
  | .noticeExpiry => Sys2Proof.Machine.execNoticeExpiry s
  | .noticeRepeat => Sys2Proof.Machine.execNoticeRepeat s
  | .slewPoint => Sys2Proof.Machine.execSlewPoint s
  | .stationSecond => Sys2Proof.Machine.execStationSecond s
  | .stationMinute => Sys2Proof.Machine.execStationMinute s
  | .dayRollover => Sys2Proof.Machine.execDayRollover s
  | .holdoverTimeout => Sys2Proof.Machine.execHoldoverTimeout s
  | .mark level => Sys2Proof.Machine.execMark level s
  | .contactLevelChange line input => Sys2Proof.Machine.execContactLevelChange line input s
  | .pendingChangeExpiry platform => Sys2Proof.Machine.execPendingChangeExpiry platform s
  | .absentEdge platform => Sys2Proof.Machine.execAbsentEdge platform s
  | .presentEdge platform => Sys2Proof.Machine.execPresentEdge platform s
  | .sensorSample r0 r1 r2 r3 => Sys2Proof.Machine.execSensorSample r0 r1 r2 r3 s
  | .framePeriod => Sys2Proof.Machine.execFramePeriod s
  | .frameRequest => Sys2Proof.Machine.execFrameRequest s
  | .nameReadComplete => Sys2Proof.Machine.execNameReadComplete s
  | .laneTransmissionComplete lane => Sys2Proof.Machine.execLaneTransmissionComplete lane s
  | .cueRequest request => Sys2Proof.Machine.execCueRequest request s
  | .removalRequest ids => Sys2Proof.Machine.execRemovalRequest ids s
  | .stateWordReadComplete => Sys2Proof.Machine.execStateWordReadComplete s
  | .pageRetry => Sys2Proof.Machine.execPageRetry s
  | .cueRecordWriteComplete => Sys2Proof.Machine.execCueRecordWriteComplete s
  | .holdExpiry => Sys2Proof.Machine.execHoldExpiry s
  | .pageHeaderWriteComplete => Sys2Proof.Machine.execPageHeaderWriteComplete s
  | .closedWriteComplete => Sys2Proof.Machine.execClosedWriteComplete s
  | .strobePulseEnd line => Sys2Proof.Machine.execStrobePulseEnd line s
  | .tallyHalfwordReadComplete => Sys2Proof.Machine.execTallyHalfwordReadComplete s
  | .tallyWordReadComplete => Sys2Proof.Machine.execTallyWordReadComplete s
  | .tallyHalfwordWriteComplete => Sys2Proof.Machine.execTallyHalfwordWriteComplete s
  | .tallyWordWriteComplete => Sys2Proof.Machine.execTallyWordWriteComplete s
  | .publishCountWriteComplete => Sys2Proof.Machine.execPublishCountWriteComplete s
  | .publishContentWriteComplete => Sys2Proof.Machine.execPublishContentWriteComplete s
  | .memoryFault => Sys2Proof.Machine.execMemoryFault s
  | .memoryRequestTimeout => Sys2Proof.Machine.execMemoryRequestTimeout s
  | .openWriteComplete => Sys2Proof.Machine.execOpenWriteComplete s
  | .hostMemoryWrite addr bytes => Sys2Proof.Machine.execHostMemoryWrite addr bytes s
  | .dimPeriodStart => Sys2Proof.Machine.execDimPeriodStart s

end Sys2Proof.Machine
end

