-- ==== Sys2Proof/Machine/Time.lean ====
section
/-! DEFINITION. What happens when no command waits: one millisecond of running time passes, and the commands that it
brings due are put in the queue (R31, R33, DESIGN CHOICE, log 2). -/

namespace Sys2Proof.Machine

/-- U after one more millisecond; 40 bits (R31). -/
def nextU (u : Nat) : Nat := (u + 1) % Config.uModulus

/-- At this millisecond T advances by one within the day: the clock is set, and it is neither a slew point nor the end
of the day (R33). -/
def plainAdvance (s : State) : Bool := clockSet s && !atSlewPoint s && decide (s.sc.t + 1 < Config.dayMs)

/-- The station seconds and minutes of a plain advance that left T at `t` (R38). -/
def crossed (t : Nat) : List Instr :=
  (if t % 1000 = 0 then [.stationSecond] else []) ++ (if t % 60000 = 0 then [.stationMinute] else [])

/-- The commands that move T at this millisecond, for a state in which U has advanced and T has not. -/
def clockCommands (s : State) : List Instr :=
  if plainAdvance s then crossed (s.sc.t + 1)
  else if clockSet s then (if atSlewPoint s then [.slewPoint] else [.dayRollover])
  else []

/-- The commands of a running tick (R32, log 22). -/
def tickCommands (s : State) : List Instr :=
  if atRunningTick s then [.runningTick, .flashEnd, .noticeRepeat, .noticeExpiry] else []

/-- A command when a condition holds. -/
def when (b : Bool) (c : Instr) : List Instr := if b then [c] else []

/-- The platforms whose pending change is due (R55). -/
def expiries (s : State) : List Instr :=
  (((List.range 32).map (· + 1)).filter fun p => (pendingDue s p).isSome).map .pendingChangeExpiry

/-- The lines whose pulse is over (R135). -/
def pulseEnds (s : State) : List Instr :=
  (s.fu.lines.zipIdx.filter fun l => pulseOver s.sc.u l.1).map fun l => .strobePulseEnd l.2

/-- The retry time is reached (R160). -/
def retryDue (s : State) : Bool :=
  match s.cq.attempt with
  | some (.retry at_) => decide (at_ ≤ s.sc.u)
  | _ => false

/-- The hold time of the open page has run out, and it is not noted yet (R162). -/
def holdDue (s : State) : Bool :=
  s.cq.openPage.any fun p =>
    decide (p.phase = .filling) && !p.causes.hold && p.firstCue.any fun f => decide (f + s.cq.holdTime ≤ s.sc.u)

/-- The commands due at this millisecond, in the order of log 2. -/
def dueCommands (s : State) : List Instr :=
  when ((List.range 4).any (dimConfigured s.fu.lines)) .dimPeriodStart
    ++ clockCommands s
    ++ when (holdoverDue s) .holdoverTimeout
    ++ expiries s
    ++ tickCommands s
    ++ when (s.wc.lastSnapshot.any fun l => decide (l + s.wc.framePeriod = s.sc.u)) .framePeriod
    ++ when (retryDue s) .pageRetry
    ++ when (holdDue s) .holdExpiry
    ++ pulseEnds s
    ++ when (timedOut s) .memoryRequestTimeout

/-- One millisecond of running time. -/
def tick (s : State) : State :=
  let s1 := s.onSc fun c => { c with u := nextU c.u }
  let s2 := if plainAdvance s1 then s1.onSc fun c => { c with t := c.t + 1 } else s1
  { s2 with pending := s2.pending ++ dueCommands s1 }

end Sys2Proof.Machine
end

