-- ==== Sys2Proof/Safety.lean ====
section
/-! DEFINITION. What a safe run is, and the terms in which claims about the machine are made: the requests of the part,
the commands that write host memory, and the invariants. -/

namespace Sys2Proof.Safety

open Sys2Proof.Machine

/-- A state runs on when its next step answers a next state: no fault and no refusal. -/
def runsOn (s : State) : Prop := ∃ t, step s = .next t

/-! ### Memory requests -/

/-- A request of an access is the one on the host link (R176). -/
def awaited (a : Access) (r : MemReq) (s : State) : Prop := ∃ f, s.xp.inFlight = some f ∧ f.req = r ∧ r.access = a

/-- A request is on the host link or waits for it (R176). -/
def requested (r : MemReq) (s : State) : Prop := (∃ f, s.xp.inFlight = some f ∧ f.req = r) ∨ r ∈ s.xp.waiting

/-- The commands at which host memory may change: writes of the part that complete or fail, and the host's own. -/
def writesMemory : Instr → Bool
  | .takenWriteComplete | .resultWriteComplete | .doneWriteComplete | .openWriteComplete | .cueRecordWriteComplete
  | .pageHeaderWriteComplete | .closedWriteComplete | .tallyHalfwordWriteComplete | .tallyWordWriteComplete
  | .publishCountWriteComplete | .publishContentWriteComplete | .memoryFault | .memoryRequestTimeout
  | .hostMemoryWrite _ _ => true
  | .start | .stop | .reset | .powerOnReset | .post _ | .xbaseWrite _ | .attnWrite _ | .attnenWrite _
  | .registerWriteIgnored _ | .headerReadComplete | .fetchCompletion | .layoutReadComplete _ | .runningTick | .flashEnd
  | .noticeExpiry | .noticeRepeat | .slewPoint | .stationSecond | .stationMinute | .dayRollover | .holdoverTimeout
  | .mark _ | .contactLevelChange _ _ | .pendingChangeExpiry _ | .absentEdge _ | .presentEdge _ | .sensorSample _ _ _ _
  | .framePeriod | .frameRequest | .nameReadComplete | .laneTransmissionComplete _ | .cueRequest _ | .removalRequest _
  | .stateWordReadComplete | .pageRetry | .holdExpiry | .strobePulseEnd _ | .tallyHalfwordReadComplete
  | .tallyWordReadComplete | .dimPeriodStart => false

/-- A reset of the part (R185). -/
def isReset : Instr → Bool
  | .reset | .powerOnReset => true
  | _ => false

/-! ### What a sheet does -/

/-- The entry units on the link spell these entries, and the sheet passes the day stamp and the guard (R76 to R79). -/
structure SheetReads (s : State) (r : MemReq) (j : SheetJob) (es : List Entry) : Prop where
  read : awaited .unitRead r s
  job : s.xp.sheet = some j
  entries : checkStructure j.header.unitCount (readData r s) = .ok es
  day : j.header.dayStamp = 0xFFFF ∨ j.header.dayStamp = s.sc.day
  guard : j.header.guard = false ∨ j.header.expected = s.ru.generation

/-- The result write of the sheet is requested, with this code and failing entry index (R74, R189). -/
def answered (s t : State) (j : SheetJob) (code index : Nat) : Prop :=
  t.xp.sheet = some { j with phase := .resultWrite } ∧
    ∃ d, requested ⟨.resultWrite, linkAddr (s.xp.xbase.toNat * 65536 + 0x2000 + 1024 * j.slot + 16), 16, d⟩ t ∧
      d.take 2 = leBytes 1 code ++ leBytes 1 index

/-- The sheet aborts with a code and an index, and changes no record (R93). -/
def aborted (s t : State) (j : SheetJob) (code index : Nat) : Prop :=
  answered s t j code index ∧ t.ru = s.ru ∧ t.sc = s.sc

/-- The sheet commits: APPLIED with index 255, and the generation one higher (R28, R74). -/
def applied (s t : State) (j : SheetJob) : Prop :=
  answered s t j 0 255 ∧ t.ru.generation = (s.ru.generation + 1) % 2 ^ 32

/-- The departure of an id is this one, or none, and every other departure is as before. -/
def departureIs (s t : State) (id : Nat) (d : Option Departure) : Prop :=
  findDep t id = d ∧ ∀ k, k ≠ id → findDep t k = findDep s k

/-- The notice of an id is this one, or none, and every other notice is as before. -/
def noticeIs (s t : State) (id : Nat) (n : Option Notice) : Prop :=
  findNotice t id = n ∧ ∀ k, k ≠ id → findNotice t k = findNotice s k

/-- What an entry finds that amends a departure: UNKNOWN_DEPARTURE (6), TOO_LATE (8) for one that has departed, and
otherwise the departure to amend (R82 to R85). -/
def amends (s t : State) (j : SheetJob) (id : Nat) (p : Departure → Prop) : Prop :=
  match findDep s id with
  | none => aborted s t j 6 0
  | some d => if d.state = .departed then aborted s t j 8 0 else p d

/-- The announced delay after the DELAY notes of a commit (R6, R92). -/
def announcedAfter (step : Nat) (notes : List Note) (id : Nat) (a : Delay) : Delay :=
  notes.foldl
    (fun a n =>
      match n with
      | .delay k d => if k.1 = id ∧ delayCondition step a d = true then d else a
      | _ => a)
    a

/-! ### Evaluation -/

/-- What R15 asks of a departure itself at its platform `p`: the platform is open, and with a usable contact that is
PRESENT and a countdown not above the arrival limit, or else a countdown within the boarding limit. -/
def mayBoard (s : State) (d : Departure) (p : Nat) : Prop :=
  isClosed s p = false ∧
    if contactUsable s p = true then
      (platformRec s p).contact = .present ∧ knownAbove (countdown s d) (s.ru.par.arrive * 1000) = false
    else knownAtMost (countdown s d) (s.ru.par.board * 1000) = true

/-- What R15 asks of the other departures of platform `p` when a departure is visited: none of those before it in roster
order, as the pass has left them in `t`, and none of those after it, as they stand in `s`, boards or closes there, and by
the contact rules none of those before it is LISTED there. -/
def platformFree (s t : State) (p : Nat) (before after : List Departure) : Prop :=
  (∀ e ∈ before, ∀ e', findDep t e.id = some e' → e'.platform = some p →
      e'.state.atGate = false ∧ (contactUsable s p = true → e'.state ≠ .listed)) ∧
    ∀ e ∈ after, e.platform = some p → e.state.atGate = false

/-! ### Cues and frames that a command asks for -/

/-- A creation sequence after `n` more cues: 32 bits (R144). -/
def sequenceAfter (seq n : Nat) : Nat := if n = 0 then seq else (seq + n) % 2 ^ 32

/-- A departure of a pass, and the record it has after it, have asked for a cue that is created (R7, R17, R25, R143): a
RETIRED report at its removal, a DEPARTED report, or unless it is quiet a first BOARDING call at its platform or a first
CLOSING call. -/
def passCue (d : Departure) (after : Option Departure) : Bool :=
  match after with
  | none => true
  | some e =>
    match d.state, e.state with
    | .boarding, .departed | .closing, .departed => true
    | .listed, .boarding => !d.quiet && decide (d.boardingCalled ≠ d.platform)
    | .boarding, .closing => !d.quiet && !d.closingCalled
    | _, _ => false

/-- A notice is spoken about no quiet departure (R143). -/
def noticeAloud (s : State) (n : Notice) : Bool :=
  match n.scope with
  | .departure k => (findDep s k).all fun d => !d.quiet
  | _ => true

/-- A frame has been asked for in RUNNING (R108): during a frame the mark is set, and otherwise one has started at U. -/
structure AsksForFrame (s t : State) : Prop where
  busy : s.wc.frame ≠ none → t.wc = { s.wc with frameWanted := true }
  idle : s.wc.frame = none → s.wc.frameWanted = false →
    t.wc.framesStarted = (s.wc.framesStarted + 1) % 2 ^ 32 ∧ t.wc.lastSnapshot = some s.sc.u

/-! ### What a platform change makes of a departure -/

/-- A moved-from list after a move from `old` to `new`: `new` leaves it, `old` joins it, and the newest three stay
(R65). -/
def movedFromList (old new : Nat) (l : List Nat) : List Nat :=
  let kept := l.filter (· ≠ new) ++ [old]
  kept.drop (kept.length - 3)

/-- A departure with both once-only marks cleared (R7, R65, R66). -/
def unmarked (d : Departure) : Departure := { d with boardingCalled := none, closingCalled := false }

/-- A departure after the commit of a SET_PLATFORM entry for it (R20, R65, R66), in a sheet of that entry alone. -/
def afterMove (s : State) (d : Departure) (new : Option Nat) : Departure :=
  if d.platform = new then d
  else if d.state = .cancelled then unmarked { d with platform := new }
  else
    let e : Departure :=
      if d.state.atGate
          && (new.isNone || s.ru.roster.any fun o => o.id != d.id && o.platform == new && o.state.atGate) then
        { d with platform := new, state := .listed, stamp := s.sc.u }
      else { d with platform := new }
    match d.platform, new with
    | none, _ => e
    | some _, none => unmarked { e with movedFrom := [], flashEnd := none }
    | some old, some p =>
      if s.ru.par.flashTime = 0 then unmarked { e with movedFrom := [], flashEnd := none }
      else
        unmarked
          { e with
            movedFrom := movedFromList old p d.movedFrom
            flashEnd := some (s.sc.u + s.ru.par.flashTime * 1000) }

/-- The platform change protocol runs on a departure (R65). -/
def changesPlatform (d : Departure) (new : Option Nat) : Bool :=
  d.platform.isSome && new.isSome && decide (d.platform ≠ new) && decide (d.state ≠ .cancelled)

/-! ### What panels show -/

/-- The display text of a name; blank for none (R111, R124). -/
def displayOf (copies : List (Nat × NameText)) (name : Option Nat) : List Byte :=
  name.elim [] fun i => (copyOf copies i).display

/-- The short text of a name: when it is empty, the first 16 characters of the display text (R120). -/
def shortOf (copies : List (Nat × NameText)) (i : Nat) : List Byte :=
  if (copyOf copies i).short = [] then (copyOf copies i).display.take 16 else (copyOf copies i).short

/-- A row of fields without flash, of colour class 0 (log 36). -/
def plainText (texts : List (List Byte)) : Row := ⟨texts.map fun t => ⟨t, false⟩, 0⟩

/-- The status of a departure (R118); the parts of a field are joined without anything between (log 14). -/
def statusText (sn : Snapshot) (tx : FixedTexts) (copies : List (Nat × NameText)) (d : SnapDep) : List Byte :=
  if d.state = .cancelled then displayOf copies tx.cancelled
  else if d.state = .departed then displayOf copies tx.departed
  else
    match d.delay with
    | .unknown => displayOf copies tx.delayed
    | .known m =>
      if d.state = .closing then displayOf copies tx.closing
      else if d.state = .boarding then displayOf copies tx.boarding
      else if 1 ≤ m then displayOf copies tx.expected ++ hhmm (wallMinute (d.sched + m) sn.rollover)
      else displayOf copies tx.onTime

/-- The row of a departure on a board (R118). -/
def departureText (sn : Snapshot) (tx : FixedTexts) (colours : List Nat) (copies : List (Nat × NameText)) (d : SnapDep) :
    Row :=
  ⟨[⟨hhmm (wallMinute d.sched sn.rollover), false⟩, ⟨displayOf copies (some d.dest), false⟩,
     ⟨d.platform.elim [] decimalText, decide (d.movedFrom ≠ [])⟩, ⟨statusText sn tx copies d, false⟩],
    colours.getD d.kind d.kind⟩

/-- The countdown field of a departure on a platform panel (R29, R119). -/
def countdownText (sn : Snapshot) (tx : FixedTexts) (copies : List (Nat × NameText)) (d : SnapDep) : List Byte :=
  match sn.clock, d.delay with
  | .unset, _ | _, .unknown => statusText sn tx copies d
  | _, .known m =>
    let n : Int := ((d.sched + m) * 60000 - sn.t + 59999) / 60000
    if 1 ≤ n ∧ n ≤ 99 then decimalText n.toNat ++ displayOf copies tx.minutes else statusText sn tx copies d

/-- The row of a departure on a platform panel (R119). -/
def panelText (sn : Snapshot) (tx : FixedTexts) (copies : List (Nat × NameText)) (d : SnapDep) : Row :=
  plainText [hhmm (wallMinute d.sched sn.rollover), shortOf copies d.dest, countdownText sn tx copies d]

/-- The front departure of a platform in a snapshot (R10). -/
def frontOf (sn : Snapshot) (p : Nat) : Option SnapDep :=
  (sn.deps.find? fun d => d.platform = some p ∧ d.state.atGate = true).or
    (sn.deps.find? fun d => d.platform = some p ∧ d.state = .listed)

/-- Row 2 of a platform panel (R120). -/
def rowTwo (sn : Snapshot) (tx : FixedTexts) (copies : List (Nat × NameText)) (p : Nat) : Row :=
  plainText
    [(frontOf sn p).elim [] fun d =>
      match sn.notices.find? fun n => n.scope = .departure d.id with
      | some n => displayOf copies (some n.text)
      | none => List.intercalate (displayOf copies tx.separator) (d.calls.map fun i => displayOf copies (some i))]

/-- Row 3 of a platform panel (R120). -/
def rowThree (sn : Snapshot) (tx : FixedTexts) (copies : List (Nat × NameText)) (p : Nat) : Row :=
  match sn.deps.find? fun d => p ∈ d.movedFrom with
  | some d =>
    plainText
      [hhmm (wallMinute d.sched sn.rollover), shortOf copies d.dest, displayOf copies tx.platformWord,
        d.platform.elim [] decimalText]
  | none =>
    match sn.notices.find? fun n => n.scope = .platform p ∧ n.priority ≠ 0 with
    | some n => plainText [displayOf copies (some n.text)]
    | none =>
      match sn.deps.find? fun d =>
          d.platform = some p ∧ d.state = .listed ∧ (frontOf sn p).map (·.id) ≠ some d.id with
      | some d => panelText sn tx copies d
      | none => plainText [[]]

/-- r of R116: the rows of a board, less the notice row. -/
def departureRows (b : BoardCfg) : Nat := b.rows - if b.noticeRow then 1 else 0

/-- F of R116: the fixed rows, at most r. -/
def fixedRows (b : BoardCfg) : Nat := min b.fixed (departureRows b)

/-- The number of pages of a board (R116). -/
def pageCount (sn : Snapshot) (b : BoardCfg) : Nat :=
  if departureRows b = fixedRows b ∨ (sn.candidates b).length ≤ fixedRows b then 1
  else
    ((sn.candidates b).length - fixedRows b + (departureRows b - fixedRows b) - 1) / (departureRows b - fixedRows b)

/-- The candidate, counted from 0, that a departure row, counted from 0, shows on a page (R116). -/
def candidateIn (b : BoardCfg) (page j : Nat) : Nat :=
  if j < fixedRows b then j else fixedRows b + page * (departureRows b - fixedRows b) + (j - fixedRows b)

/-- A departure is a candidate of a board (R115). -/
def IsCandidate (sn : Snapshot) (b : BoardCfg) (d : SnapDep) : Prop :=
  d ∈ sn.deps ∧ b.kindMask.getLsbD d.kind = true ∧
    (match d.platform with
     | none => b.unassigned = true
     | some p => 1 ≤ p ∧ b.platformMask.getLsbD (p - 1) = true) ∧
    (sn.clock = .unset ∨
      match d.delay with
      | .known m => d.sched + m - (sn.t / 60000 : Nat) ≤ b.horizon
      | .unknown => d.sched - (sn.t / 60000 : Nat) ≤ b.horizon)

/-! ### What a frame sends -/

/-- The line records that a lane has been given and has not sent whole, in their order: the one being sent, those of the
frame queue, and those that wait for a place (R127, R129). -/
def lineRecords (l : Lane) : List LineRec :=
  (match l.sending with | some (.line r) => [r] | _ => []) ++ l.frameQueue ++ l.waiting

/-- The line records of lane `n`. -/
def laneLines (s : State) (n : Nat) : List LineRec := (s.fu.lanes[n]?.map lineRecords).getD []

/-- The records of the panel at place `i` that EMIT hands over (R112): of its rows, built from the frame's snapshot and
its copies, those that differ from the sent image, and in a full refresh every one. -/
def panelRecords (x : WC) (f : Frame) (i : Nat) (p : Panel) : List LineRec :=
  ((f.snap.panelRows x.texts x.colours p).zipIdx.map fun q =>
      (⟨i, p.addr, q.2 + 1, q.1.resolve f.copies⟩ : LineRec)).filter
    fun r => f.full || decide (p.image[r.row - 1]? ≠ some (some r.content))

/-- The records of lane `n`, in panel-table order and row order (R112). -/
def frameRecords (x : WC) (f : Frame) (n : Nat) : List LineRec :=
  x.panels.zipIdx.flatMap fun q => if q.1.lane = n then panelRecords x f q.2 q.1 else []

/-- EMIT (R112, R126, R127): each lane has its records behind those it had; a row whose record has been accepted stands in
the sent image, and one whose record waits does not yet; nothing else of the panels, the lines, the sensors or the dim
channels has changed. -/
structure Emits (f : Frame) (s t : State) : Prop where
  lanes : ∀ n, n < s.fu.lanes.length → laneLines t n = laneLines s n ++ frameRecords s.wc f n
  rest : t.fu = { s.fu with lanes := t.fu.lanes } ∧ t.fu.lanes.length = s.fu.lanes.length ∧
    t.wc.panels.length = s.wc.panels.length
  images : ∀ (i : Nat) (p : Panel), s.wc.panels[i]? = some p →
    ∃ q, t.wc.panels[i]? = some q ∧ q = { p with image := q.image } ∧
      (∀ j, (∀ r ∈ panelRecords s.wc f i p, r.row ≠ j + 1) → q.image[j]? = p.image[j]?) ∧
      ∀ k l, s.fu.lanes[p.lane]? = some k → k.waiting = [] → t.fu.lanes[p.lane]? = some l →
        ∀ r ∈ panelRecords s.wc f i p, r.row ≤ p.image.length →
          q.image[r.row - 1]? = if r ∈ l.waiting then p.image[r.row - 1]? else some (some r.content)

/-- A panel after a snapshot: the page of a board (R117). -/
def turned (sn : Snapshot) (p : Panel) : Panel :=
  match p.kind with
  | .board b =>
    let k := if pageCount sn b ≤ p.page then 0 else p.page
    if p.lastAdvance + b.dwell * 1000 ≤ sn.u then
      { p with page := if pageCount sn b ≤ k + 1 then 0 else k + 1, lastAdvance := sn.u }
    else { p with page := k }
  | _ => p

/-- The panels of a state with their pages turned by a snapshot. -/
def withPages (sn : Snapshot) (s : State) : State :=
  { s with wc := { s.wc with panels := s.wc.panels.map (turned sn) } }

/-- A name that a row of the wall uses (R110, R111). -/
def UsesName (x : WC) (sn : Snapshot) (k : Nat) : Prop :=
  ∃ p ∈ x.panels, ∃ row ∈ sn.panelRows x.texts x.colours p, ∃ fd ∈ row.fields, ∃ pc ∈ fd.pieces, pc.nameIdx = some k

/-- A frame begins (R109 to R113, R117, R124): its number and its full refresh, its snapshot, the boards' pages, the names it
has at once (blank at or above the name table size, or from the cache) and those it awaits; while it awaits none it has
emitted, and when every record is accepted as well it has ended. -/
structure FrameBegins (f : Frame) (s t : State) : Prop where
  number : f.number = (s.wc.framesStarted + 1) % 2 ^ 32 ∧ t.wc.framesStarted = f.number
  full : f.full = decide (f.number % s.wc.refreshCount = 0)
  snap : f.snap = takeSnapshot s ∧ t.wc.lastSnapshot = some s.sc.u
  awaits : ∀ k, k ∈ f.awaiting ↔
    UsesName (withPages f.snap s).wc f.snap k ∧ k < s.wc.nameSize ∧ cacheFind k s.wc.cache = none
  copies : ∀ k c, UsesName (withPages f.snap s).wc f.snap k →
    (s.wc.nameSize ≤ k → copyOf f.copies k = blankName) ∧
      (k < s.wc.nameSize → cacheFind k s.wc.cache = some c → copyOf f.copies k = c)
  pending : f.awaiting ≠ [] → t.wc.frame = some f ∧ f.emitting = false ∧ t.fu = s.fu ∧
    t.wc.panels = (withPages f.snap s).wc.panels
  emits : f.awaiting = [] → f.emitting = true ∧ Emits f (withPages f.snap s) t ∧
    ((∃ l ∈ t.fu.lanes, l.waiting ≠ []) → t.wc.frame = some f) ∧
    ((∀ l ∈ t.fu.lanes, l.waiting = []) → t.wc.frame = none)

/-! ### What a layout gives -/

/-- A parameter of the layout block: absent, it takes its default, and out of its range the nearer end (R188). -/
def layoutField (rd : LayoutReader) (off n lo hi dflt : Nat) : Nat :=
  if rd off n = 256 ^ n - 1 then dflt else max lo (min hi (rd off n))

/-- A field of the layout block that may be absent (R186). -/
def layoutOption (rd : LayoutReader) (off n : Nat) : Option Nat :=
  if rd off n = 256 ^ n - 1 then none else some (rd off n)

/-- The timing parameters and the flash time (R12, R65, R187). -/
def layoutTimes (rd : LayoutReader) : RosterParams where
  board := layoutField rd 0x24 2 0 3600 600
  close := layoutField rd 0x26 2 0 600 60
  arrive := layoutField rd 0x28 2 0 7200 1800
  depart := layoutField rd 0x2A 2 0 600 120
  grace := layoutField rd 0x2C 2 0 900 60
  gone := layoutField rd 0x2E 2 0 600 60
  cancel := layoutField rd 0x30 2 0 180 15
  stale := layoutField rd 0x32 2 5 240 30
  delayStep := layoutField rd 0x36 2 1 60 5
  flashTime := layoutField rd 0x34 2 0 900 120

/-- The panel at place `i` of the panel table (R106, R187), its sent image empty (R126) and its page at the start
(R117). -/
def layoutPanel (rd : LayoutReader) (u i : Nat) : Panel :=
  let o := 0x340 + 16 * i
  let flag (b : Nat) : Bool := (rd (o + 3) 1).testBit b
  let kind : PanelKind :=
    match rd o 1 % 4 with
    | 0 =>
      .board
        ⟨rd (o + 4) 1, rd (o + 5) 1, flag 0, BitVec.ofNat 32 (rd (o + 8) 4), flag 1, BitVec.ofNat 8 (rd (o + 7) 1),
          layoutField rd (o + 12) 2 10 1440 180, layoutField rd (o + 14) 1 3 60 10⟩
    | 1 => .platform (rd (o + 6) 1)
    | 2 => .clock (flag 0)
    | _ => .strip
  ⟨kind, rd (o + 1) 1 % 16, rd (o + 2) 1 % 4, List.replicate kind.rows none, 0, u⟩

/-- The Wall Composer takes a layout (R107, R117, R123, R126, R187); a name read in flight and waiting misses: logs 25 and
47. -/
structure ComposerTakes (rd : LayoutReader) (u : Nat) (x y : WC) : Prop where
  kept : y =
    { x with
      panels := (List.range (rd 0x07 1)).map (layoutPanel rd u)
      cache := []
      fetch := x.fetch.map fun f => { f with once := true }
      misses := x.misses.filter fun m => decide (m.idx < rd 0x10 2)
      framePeriod := layoutField rd 0x38 2 200 5000 500
      refreshCount := layoutField rd 0x3C 2 1 255 120
      texts := y.texts
      colours := (List.range 8).map fun k => layoutField rd (0x120 + k) 1 0 7 k
      nameOrigin := rd 0x08 8 % 2 ^ 48
      nameSize := rd 0x10 2 }
  texts :
    [y.texts.cancelled, y.texts.departed, y.texts.delayed, y.texts.closing, y.texts.boarding, y.texts.onTime,
        y.texts.expected, y.texts.minutes, y.texts.platformWord, y.texts.closedText, y.texts.noDepartures,
        y.texts.separator]
      = (List.range 12).map fun i => some (rd (0x100 + 2 * i) 2)

/-- The kind of a template item (R187). -/
def itemCode : Item → Nat
  | .literal _ => 1
  | .runLabel => 2
  | .dest => 3
  | .calls => 4
  | .platform => 5
  | .oldPlatform => 6
  | .schedTime => 7
  | .expTime => 8
  | .delayMin => 9
  | .reason => 10
  | .noticeText => 11

/-- The Cue Sequencer takes a layout (R141, R154, R159, R166, R187): of the priorities, that of NOTICE is not given. The
width of an item's kind is log 32. -/
structure CuesTake (rd : LayoutReader) (x y : CQ) : Prop where
  kept : y =
    { x with
      holdTime := layoutField rd 0x3A 2 0 5000 500
      priorities := y.priorities
      templates := y.templates
      charBase := layoutField rd 0x40 2 0 65535 0
      numberBase := layoutField rd 0x42 2 0 65535 0
      hourBase := layoutField rd 0x44 2 0 65535 0
      minuteBase := layoutField rd 0x46 2 0 65535 0
      andCode := layoutOption rd 0x48 2
      tallyOrigin := rd 0x18 8 % 2 ^ 48
      tallySize := rd 0x12 2 }
  priorities : y.priorities.length = 11 ∧ ∀ k, k < 11 → k ≠ 6 →
    y.priorities[k]? = some (layoutField rd (0x128 + k) 1 0 3 ([1, 1, 0, 2, 0, 2, 0, 1, 1, 1, 1].getD k 0))
  templates : y.templates.length = 11 ∧ ∀ (k : Nat) (items : List Item), y.templates[k]? = some items →
    items.map itemCode = (List.range (rd (0x640 + 68 * k) 1)).map (fun i => rd (0x644 + 68 * k + 4 * i) 1) ∧
      ∀ i v, items[i]? = some (.literal v) → v = rd (0x646 + 68 * k + 4 * i) 2

/-- A departure meets a platform count (R67, R183 step 3). -/
def restarted (count u : Nat) (d : Departure) : Departure :=
  if d.platform.any fun p => decide (count < p) then
    { unmarked d with
      platform := none, movedFrom := [], flashEnd := none
      state := if d.state.atGate then .listed else d.state
      stamp := if d.state.atGate then u else d.stamp }
  else
    { d with
      movedFrom := d.movedFrom.filter (· ≤ count)
      flashEnd := if d.movedFrom.all fun p => decide (count < p) then none else d.flashEnd }

/-- The Roster Unit takes a layout (R12, R65, R100, R183 step 3). -/
def rosterTaken (rd : LayoutReader) (u : Nat) (x : RU) : RU :=
  { x with
    par := layoutTimes rd
    roster := x.roster.map (restarted (rd 0x06 1) u)
    notices := x.notices.filter fun n => match n.scope with | .platform p => decide (p ≤ rd 0x06 1) | _ => true }

/-- The record of platform `p` in a layout (R52, R187), with the pending change that its baseline starts from (R59); above
the count, log 35. -/
def platformTaken (rd : LayoutReader) (pending : Option Pending) (p : Nat) : PlatformRec :=
  if p ≤ rd 0x06 1 then
    ⟨layoutOption rd (0x140 + 8 * (p - 1)) 1, (rd (0x141 + 8 * (p - 1)) 1).testBit 0,
      layoutField rd (0x142 + 8 * (p - 1)) 2 200 10000 2000, .unknown, pending, []⟩
  else ⟨none, false, 2000, .unknown, none, []⟩

/-- The function of a field line in a layout (R131, R135, R187). -/
def layoutFn (rd : LayoutReader) (i : Nat) : LineFn :=
  let opt := rd (0x241 + 4 * i) 1
  match rd (0x240 + 4 * i) 1 with
  | 1 => .contact (opt.testBit 0)
  | 2 => .mark (if opt % 4 = 0 then .rising else if opt % 4 = 1 then .falling else .both)
  | 3 => .lane (opt % 16)
  | 4 => .strobe (opt.testBit 0) (layoutField rd (0x242 + 4 * i) 2 1 255 10)
  | 5 => .dimTrue
  | 6 => .dimComp
  | 7 => .analog
  | _ => .idle

/-- The parameters of dim channel `k` in a layout (R136, R187): a maximum below the minimum is taken equal to it. -/
def layoutDim (rd : LayoutReader) (k : Nat) : DimParams :=
  let o := 0x300 + 16 * k
  let least := layoutField rd (o + 6) 2 0 1000 0
  ⟨if rd o 1 ≤ 3 then some (rd o 1) else none, layoutField rd (o + 2) 2 0 1000 500, layoutField rd (o + 4) 2 0 1000 0,
    least, max least (layoutField rd (o + 8) 2 0 1000 1000), layoutField rd (o + 10) 2 0 1439 0,
    layoutField rd (o + 12) 2 0 1439 0, layoutField rd (o + 14) 2 0 1000 1000, layoutField rd (o + 1) 1 1 63 10⟩

/-! ### Invariants -/

/-- The layout reads on the link and waiting. -/
def layoutReads (x : XP) : Nat :=
  ((x.inFlight.map (·.req)).toList ++ x.waiting).countP fun r => decide (r.access = .layoutRead)

/-- A layout read, at most one, is on the link or waits for it only while the run state is STARTING (R181). -/
def LayoutInv (x : XP) : Prop := layoutReads x ≤ if x.run = .starting then 1 else 0

/-- The ranges of the Station Clock's fields (R37), T and P at 0 in UNSET (R33, R43), and U within its 40 bits (R31). -/
structure ClockInv (c : SC) : Prop where
  u : c.u < 2 ^ 40
  t : c.t < 86400000
  day : c.day < 65535
  unset : c.clock = .unset → c.t = 0 ∧ c.slew = 0
  slew : -30000 ≤ c.slew ∧ c.slew ≤ 30000
  candidate : ∀ o, c.candidate = some o → -30000 ≤ o ∧ o ≤ 29999
  rollover : c.rollover ≤ 1439
  stepLimit : 500 ≤ c.stepLimit ∧ c.stepLimit ≤ 30000

/-- Every duty and its bounds lie within 0..1000, and every duty is 0 outside RUNNING (R136). -/
structure DutyInv (s : State) : Prop where
  bounds : ∀ d ∈ s.fu.dims, d.duty ≤ 1000 ∧ d.par.min ≤ 1000 ∧ d.par.max ≤ 1000
  dark : s.xp.run ≠ .running → ∀ d ∈ s.fu.dims, d.duty = 0

/-- A publication stands between an odd count and the even one that ends it (R178). -/
def midPublication (p : Option Publication) : Bool :=
  match p with
  | some q => decide (q.phase ≠ .even)
  | none => false

/-- The publish count is odd while a publication has not reached its last step, and even otherwise (R178). -/
structure PublishInv (x : XP) : Prop where
  range : x.publishCount < 2 ^ 32
  parity : x.publishCount % 2 = if midPublication x.publication then 1 else 0

/-- The roster holds at most 192 records, no two of one id (R8), in ascending order of (K, S, id) (R9). -/
structure RosterInv (x : RU) : Prop where
  size : x.roster.length ≤ 192
  ids : (x.roster.map (·.id)).Nodup
  order : x.roster.Pairwise fun a b => rosterBefore a b = true

/-- What R65 holds of a moved-from list, with what keeps it so: at most three platforms, no repeats, never the current
platform; empty while the flash end is absent, while unassigned and while CANCELLED. -/
structure MovedFromInv (d : Departure) : Prop where
  short : d.movedFrom.length ≤ 3
  distinct : d.movedFrom.Nodup
  elsewhere : ∀ p, d.platform = some p → p ∉ d.movedFrom
  dark : d.flashEnd = none → d.movedFrom = []
  unassigned : d.platform = none → d.movedFrom = []
  cancelled : d.state = .cancelled → d.movedFrom = []

/-- What R11 and R68 hold of departures at platforms: each stands at a platform in service that is not closed; one in
BOARDING or CLOSING has a platform, and no other departure in BOARDING or CLOSING stands there. -/
structure PlatformInv (s : State) : Prop where
  standing : ∀ d ∈ s.ru.roster, ∀ p, d.platform = some p →
    1 ≤ p ∧ p ≤ s.pu.platformCount ∧ closedIn s.ru.closed p = false
  assigned : ∀ d ∈ s.ru.roster, d.state.atGate = true → d.platform ≠ none
  alone : ∀ d ∈ s.ru.roster, ∀ e ∈ s.ru.roster,
    d.state.atGate = true → e.state.atGate = true → d.platform = e.platform → d.id = e.id

/-- The frame counts (R109): equal with no frame in flight; with one, frames-started is one more, modulo 2^32, and it is
the frame's number. -/
structure FrameInv (x : WC) : Prop where
  range : x.framesStarted < 2 ^ 32 ∧ x.framesCompleted < 2 ^ 32
  idle : x.frame = none → x.framesStarted = x.framesCompleted
  busy : ∀ f, x.frame = some f → f.number = x.framesStarted ∧ x.framesStarted = (x.framesCompleted + 1) % 2 ^ 32

/-- A panel is a clock panel of a lane. -/
def clockOn (n : Nat) (p : Panel) : Bool :=
  (match p.kind with | .clock _ => true | _ => false) && decide (p.lane = n)

/-- The bounds of the queues and buffers (R56, R96, R123, R127, R128, R138, R149, R167, R173), the order of the cue queue by
priority (R149), and the range of the next posting sequence (R95, R96). A lane serves at most two clock panels, and its
clock queue holds at most one record for each (R128, R132). -/
structure QueueInv (s : State) : Prop where
  posts : s.xp.postQueue.length ≤ 16 ∧ ∀ n ∈ s.xp.postQueue, n ≤ 15
  notices : s.ru.notices.length ≤ 24
  histories : ∀ p ∈ s.pu.platforms, p.history.length ≤ 8
  cache : s.wc.cache.length ≤ 96
  frameQueues : ∀ l ∈ s.fu.lanes, l.frameQueue.length ≤ 64
  samples : ∀ h ∈ s.fu.sensors, h.length ≤ 8
  cues : s.cq.queue.length ≤ 32
  tallies : s.cq.tallyList.length ≤ 32
  urgency : s.cq.queue.Pairwise fun a b => a.priority ≤ b.priority
  postings : 1 ≤ s.ru.nextPosting ∧ s.ru.nextPosting < 2 ^ 40
  clockPanels : ∀ n, (s.wc.panels.filter (clockOn n)).length ≤ 2
  clocks : ∀ (n : Nat) (l : Lane), s.fu.lanes[n]? = some l →
    l.clockQueue.length ≤ 2 ∧ (l.clockQueue.map (·.addr)).Nodup ∧
      ∀ r ∈ l.clockQueue, ∃ p ∈ s.wc.panels, clockOn n p = true ∧ p.addr = r.addr

/-- An open page holds at most 16 cues; one that takes cues, with no write in progress, has a record left (R161). -/
structure PageInv (x : CQ) : Prop where
  count : ∀ p, x.openPage = some p → p.count ≤ 16
  opening : ∀ p, x.openPage = some p → p.phase = .opening → p.count ≤ 1
  room : ∀ p, x.openPage = some p → p.phase = .filling → x.writing = none → p.count < 16

end Sys2Proof.Safety
end

