-- ==== Sys2Proof/Certificates/Slice0/Obligations.lean ====
section
/-! DEFINITION. The statements for the provers. A frame is written t = { s with … }: every block not named there is
unchanged. -/

open Sys2Proof Sys2Proof.Machine Sys2Proof.Safety

/-! ### Steps -/

/-- The command at the front of the queue is what a step runs (the queue is the model's, log 28). -/
def Obligations.StepRunsTheFrontCommand : Prop :=
  ∀ (c : Instr) (rest : List Instr) (s : State),
    step { s with pending := c :: rest } = exec c { s with pending := rest }

/-- With no command waiting, a step is one millisecond of running time: U rises by one (R31; that it
wraps at 40 bits is the model's choice, log 26), and T rises with it while the clock is set, but for slew points and the
end of the day, whose commands are then put in the queue (the model's choice, log 2). -/
def Obligations.EmptyQueueIsOneMillisecond : Prop :=
  ∀ s : State, s.pending = [] →
    ∃ t, step s = .next t ∧ t = { s with sc := t.sc, pending := t.pending } ∧
      t.sc = { s.sc with u := (s.sc.u + 1) % 2 ^ 40, t := t.sc.t } ∧
      (s.sc.clock = .unset → t.sc.t = s.sc.t) ∧
      (s.sc.clock ≠ .unset → t.sc.u % 100 ≠ 0 → s.sc.t + 1 < 86400000 → t.sc.t = s.sc.t + 1) ∧
      (s.sc.clock ≠ .unset → t.sc.u % 100 = 0 → t.sc.u ≠ 0 → t.sc.t = s.sc.t ∧ .slewPoint ∈ t.pending) ∧
      (s.sc.clock ≠ .unset → t.sc.u % 100 ≠ 0 → s.sc.t + 1 = 86400000 →
        t.sc.t = s.sc.t ∧ .dayRollover ∈ t.pending) ∧
      (t.sc.u % 1000 = 0 → t.sc.u ≠ 0 → .runningTick ∈ t.pending)

/-- Every well-formed command completes: no command ends in a fault or a refusal. -/
def Obligations.EveryWellFormedCommandCompletes : Prop :=
  ∀ (c : Instr) (s : State), c.wf = true → ∃ t, exec c s = .next t

/-- No command touches the queue (the model's own, log 28; a reset leaves it, log 8), and no command but a reset moves U
(R31). -/
def Obligations.CommandsLeaveQueueAndRunningTime : Prop :=
  ∀ (c : Instr) (s t : State), exec c s = .next t →
    t.pending = s.pending ∧ (isReset c = false → t.sc.u = s.sc.u) ∧ (isReset c = true → t.sc.u = 0)

/-- Host memory is changed by the writes of the part and of the host alone, at their completion or fault (log 5; what a
faulted write leaves, log 6; a reset leaves memory, log 8: the model's choices). -/
def Obligations.OtherCommandsLeaveMemory : Prop :=
  ∀ (c : Instr) (s t : State), exec c s = .next t → writesMemory c = false → t.mem = s.mem

/-! ### Host commands -/

/-- START (R180, R181). -/
def Obligations.StartReadsTheLayoutOrFaults : Prop :=
  ∀ s : State,
    (s.xp.run = .stopped → s.xp.xbase ≠ 0 →
      ∃ t, exec .start s = .next t ∧ t = { s with xp := t.xp } ∧ t.xp.run = .starting ∧
        t.xp.attn = s.xp.attn ||| 64#7 ∧ requested ⟨.layoutRead, s.xp.xbase.toNat * 65536, 8192, []⟩ t) ∧
    (s.xp.run = .stopped → s.xp.xbase = 0 →
      exec .start s = .next { s with xp := { s.xp with faultCode := 1, faultIndex := 0 } }) ∧
    (s.xp.run ≠ .stopped → exec .start s = .next s)

/-- STOP (R180, R181, R184). -/
def Obligations.StopEntersStopping : Prop :=
  ∀ s : State,
    (s.xp.run = .running →
      ∃ t, exec .stop s = .next t ∧
        t = { s with xp := t.xp, pu := t.pu, wc := t.wc, fu := t.fu, cq := t.cq } ∧
        (t.xp.run = .stopping ∨ t.xp.run = .stopped) ∧ t.xp.postQueue = [] ∧ t.xp.attn.getLsbD 6 = true ∧
        t.wc.frameWanted = false ∧ (∀ d ∈ t.fu.dims, d.duty = 0) ∧
        (s.xp.sheet ≠ none → t.xp.run = .stopping ∧ t.xp.stopStage = some .sheet ∧ t.xp.sheet = s.xp.sheet)) ∧
    (s.xp.run = .starting → exec .stop s = .next { s with xp := { s.xp with stopRequested := true } }) ∧
    (s.xp.run = .stopped ∨ s.xp.run = .stopping → exec .stop s = .next s)

/-- RESET and the reset pin (R185). Host memory, the queue of commands and the counter of free values are not the part's
(the model's choice, log 8). -/
def Obligations.ResetRestoresEveryBlock : Prop :=
  ∀ s : State,
    exec .reset s = .next { State.reset with mem := s.mem, pending := s.pending, freeCount := s.freeCount } ∧
    exec .powerOnReset s = .next { State.reset with mem := s.mem, pending := s.pending, freeCount := s.freeCount }

/-- A post (R173, R174). A refused one raises POST_REFUSED with the slot and the first reason that holds, and changes
nothing else; a slot field of 6 bits shows at most 63 (R170). One that is not refused is appended, and the head of the
queue is taken at once when no sheet is in flight. -/
def Obligations.PostsAreRefusedQueuedOrTaken : Prop :=
  ∀ (v : Word) (s : State),
    (s.xp.run ≠ .running ∨ 15 < v.toNat ∨ 16 ≤ s.xp.postQueue.length →
      exec (.post v) s =
        .next
          { s with
            xp :=
              { s.xp with
                attn := s.xp.attn ||| 16#7
                refusedSlot := min v.toNat 63
                refusal :=
                  if s.xp.run ≠ .running then .notRunning else if 15 < v.toNat then .range else .full } }) ∧
    (s.xp.run = .running → v.toNat ≤ 15 → s.xp.postQueue.length < 16 →
      ∃ t, exec (.post v) s = .next t ∧ t = { s with xp := t.xp } ∧ t.xp.attn = s.xp.attn ∧
        (∀ j, s.xp.sheet = some j → t.xp = { s.xp with postQueue := s.xp.postQueue ++ [v.toNat] }) ∧
        (s.xp.sheet = none →
          ∃ j slot, t.xp.sheet = some j ∧ j.slot = slot ∧ j.phase = .headerRead ∧
            slot :: t.xp.postQueue = s.xp.postQueue ++ [v.toNat] ∧
            requested ⟨.headerRead, linkAddr (s.xp.xbase.toNat * 65536 + 0x2000 + 1024 * slot), 32, []⟩ t))

/-- The register window: writes to XBASE, ATTN and ATTNEN, the accesses that are ignored, the attention line, and what
every offset reads as, RUNSTAT field by field (R169 to R172, R175). -/
def Obligations.RegisterWindow : Prop :=
  ∀ (v : Word) (a : IgnoredWrite) (s : State),
    (s.xp.run = .stopped → exec (.xbaseWrite v) s = .next { s with xp := { s.xp with xbase := v } }) ∧
    (s.xp.run ≠ .stopped → exec (.xbaseWrite v) s = .next s) ∧
    exec (.registerWriteIgnored a) s = .next s ∧
    (∃ t, exec (.attnWrite v) s = .next t ∧ t = { s with xp := { s.xp with attn := t.xp.attn } } ∧
      ∀ i < 7, t.xp.attn.getLsbD i = (s.xp.attn.getLsbD i && !v.getLsbD i)) ∧
    (∃ t, exec (.attnenWrite v) s = .next t ∧ t = { s with xp := { s.xp with attnen := t.xp.attnen } } ∧
      ∀ i < 7, t.xp.attnen.getLsbD i = v.getLsbD i) ∧
    (attentionLine s = true ↔ ∃ i < 7, s.xp.attn.getLsbD i = true ∧ s.xp.attnen.getLsbD i = true) ∧
    readRegister s 0x00 = 0x0D400011#32 ∧ readRegister s 0x04 = s.xp.xbase ∧
    (readRegister s 0x14).toNat = s.xp.attn.toNat ∧ (readRegister s 0x18).toNat = s.xp.attnen.toNat ∧
    readRegister s 0x08 = 0#32 ∧ readRegister s 0x10 = 0#32 ∧
    (∀ off, 0x1C ≤ off → off ≤ 0x3C → readRegister s off = 0#32) ∧
    (s.xp.postQueue.length ≤ 16 → s.xp.faultCode < 16 → s.xp.faultIndex < 256 → s.xp.refusedSlot < 64 →
      ∃ n, n = (readRegister s 0x0C).toNat ∧
        n % 4 =
          (match s.xp.run with
           | .stopped => 0
           | .starting => 1
           | .running => 2
           | .stopping => 3) ∧
        n / 2 ^ 2 % 32 = s.xp.postQueue.length ∧ n / 2 ^ 7 % 16 = s.xp.faultCode ∧
        n / 2 ^ 11 % 256 = s.xp.faultIndex ∧ n / 2 ^ 19 % 64 = s.xp.refusedSlot ∧
        n / 2 ^ 25 % 8 =
          (match s.xp.refusal with
           | .none => 0
           | .full => 1
           | .notRunning => 2
           | .range => 3
           | .stray => 4) ∧
        n / 2 ^ 28 =
          (match s.xp.faultArea with
           | none => 0
           | some .layout => 1
           | some .sheet => 2
           | some .name => 3
           | some .page => 4
           | some .tally => 5
           | some .status => 6))

/-- The host writes bytes of its memory (R1): they read as written, and every other byte reads as before. A write past
the last address stops with a fault (the model's choice, log 7). -/
def Obligations.HostWritesMemory : Prop :=
  ∀ (a : Addr) (bs : List Byte) (s : State), Memory.wf s.mem = true →
    (a.toNat + bs.length ≤ 2 ^ 48 →
      ∃ t, exec (.hostMemoryWrite a bs) s = .next t ∧ t = { s with mem := t.mem } ∧
        (∀ i b, bs[i]? = some b → Memory.read t.mem (a.toNat + i) = b) ∧
        ∀ k, k < a.toNat ∨ a.toNat + bs.length ≤ k → Memory.read t.mem k = Memory.read s.mem k) ∧
    (2 ^ 48 < a.toNat + bs.length → exec (.hostMemoryWrite a bs) s = .fault .outsideAddressSpace)

/-! ### Sheets -/

/-- The slot header returns (R71, R174): a POSTED slot has TAKEN written, and any other state word is a stray. Then TAKEN
stands in the slot's state word, and the entry units are read as one request; a unit count above 62 reads none and makes
the sheet MALFORMED, and a unit count of 0 reads none and is a sheet of no entry, judged at once (R72, R76, R174). -/
def Obligations.SheetIsTakenAndFetched : Prop :=
  ∀ (s : State) (r : MemReq) (j : SheetJob), s.xp.sheet = some j →
    (awaited .headerRead r s → leNat ((readData r s).take 4) = 1 →
      ∃ t, exec .headerReadComplete s = .next t ∧
        t = { s with xp := t.xp, pu := t.pu, wc := t.wc, fu := t.fu, cq := t.cq } ∧
        t.xp.sheet = some { j with phase := .takenWrite, header := parseHeader (readData r s) } ∧
        requested ⟨.takenWrite, linkAddr (s.xp.xbase.toNat * 65536 + 0x2000 + 1024 * j.slot), 4, leBytes 4 2⟩ t ∧
        (s.xp.run ≠ .stopping → t = { s with xp := t.xp } ∧ t.xp.attn = s.xp.attn)) ∧
    (awaited .headerRead r s → leNat ((readData r s).take 4) ≠ 1 →
      ∃ t, exec .headerReadComplete s = .next t ∧
        t = { s with xp := t.xp, pu := t.pu, wc := t.wc, fu := t.fu, cq := t.cq } ∧
        t.xp.attn.getLsbD 4 = true ∧ t.xp.refusal = .stray ∧ t.xp.refusedSlot = min j.slot 63 ∧
        (s.xp.postQueue = [] → t.xp.sheet = none)) ∧
    (awaited .takenWrite r s →
      ∃ t, exec .takenWriteComplete s = .next t ∧ t.mem = Memory.writeBytes s.mem r.addr r.data ∧
        (1 ≤ j.header.unitCount → j.header.unitCount ≤ 62 →
          t.xp.sheet = some { j with phase := .unitRead } ∧ t.ru = s.ru ∧
          requested
            ⟨.unitRead, linkAddr (s.xp.xbase.toNat * 65536 + 0x2000 + 1024 * j.slot + 32), 16 * j.header.unitCount, []⟩
            t) ∧
        (62 < j.header.unitCount → answered s t j 2 255 ∧ t.ru = s.ru) ∧
        (j.header.unitCount = 0 →
          (j.header.dayStamp ≠ 0xFFFF → j.header.dayStamp ≠ s.sc.day → aborted s t j 3 255) ∧
          (j.header.dayStamp = 0xFFFF ∨ j.header.dayStamp = s.sc.day →
            (j.header.guard = true → j.header.expected ≠ s.ru.generation → aborted s t j 4 255) ∧
            (j.header.guard = false ∨ j.header.expected = s.ru.generation → RosterInv s.ru → PlatformInv s →
              s.ru.notices.length ≤ 24 →
              applied s t j ∧ t.ru.closed = s.ru.closed ∧ t.cq.nextSeq = s.cq.nextSeq ∧
                ∀ k, findDep t k = findDep s k))))

/-- A sheet that fails at any stage leaves every record unchanged; its result gives the code and the index (R74, R93). -/
def Obligations.AbortedSheetChangesNothing : Prop :=
  ∀ (s : State) (r : MemReq) (j : SheetJob) (f : SheetFailure), awaited .unitRead r s → s.xp.sheet = some j →
    judgeSheet j.header (some (readData r s)) s = .error f →
    ∃ t, exec .fetchCompletion s = .next t ∧ t.ru = s.ru ∧ t.sc = s.sc ∧ t.mem = s.mem ∧
      (s.xp.run ≠ .stopping → t = { s with xp := t.xp }) ∧
      t.xp.sheet = some { j with phase := .resultWrite } ∧
      ∃ d, requested ⟨.resultWrite, linkAddr (s.xp.xbase.toNat * 65536 + 0x2000 + 1024 * j.slot + 16), 16, d⟩ t ∧
        d = leBytes 1 f.code.number ++ leBytes 1 f.index ++ leBytes 2 f.clamps ++ leBytes 4 s.ru.generation
          ++ leBytes 4 0xFFFFFFFF ++ leBytes 2 0 ++ leBytes 2 0

/-- A sheet that passes every check (R28, R74, R91, R92, R97): the generation is one higher, the closed flags are those of
the working copy, and the result is APPLIED with the first sequence and the number of the cues created. Without a
SET_TIME the roster and the notices are those of the working copy, stamped, settled and placed, the announced delays
after its DELAY notes, and the last-spoken time at U of each notice that it posted to be spoken; a SET_TIME sets the
clock (R48). -/
def Obligations.CommittedSheetTakesEffect : Prop :=
  ∀ (s : State) (r : MemReq) (j : SheetJob) (w : Work), awaited .unitRead r s → s.xp.sheet = some j →
    judgeSheet j.header (some (readData r s)) s = .ok w →
    ∃ t, exec .fetchCompletion s = .next t ∧ t.ru.generation = (s.ru.generation + 1) % 2 ^ 32 ∧
      t.ru.closed = w.closed ∧ t.ru.par = s.ru.par ∧ t.mem = s.mem ∧ t.xp.sheet = some { j with phase := .resultWrite } ∧
      (∃ d, requested ⟨.resultWrite, linkAddr (s.xp.xbase.toNat * 65536 + 0x2000 + 1024 * j.slot + 16), 16, d⟩ t ∧
        d.take 8 = leBytes 1 0 ++ leBytes 1 255 ++ leBytes 2 w.clamps ++ leBytes 4 ((s.ru.generation + 1) % 2 ^ 32) ∧
        ∀ made, (t.cq.nextSeq + 2 ^ 32 - s.cq.nextSeq) % 2 ^ 32 = made → (∀ n ∈ w.notes, n.isSetTime = false) →
          d.drop 8 =
            (if made = 0 then leBytes 4 0xFFFFFFFF else leBytes 4 s.cq.nextSeq) ++ leBytes 2 made ++ leBytes 2 0) ∧
      ((∀ n ∈ w.notes, n.isSetTime = false) → t.sc = s.sc ∧
        t.ru.nextPosting = (commitRU s.sc.u w s.ru).nextPosting ∧
        ((s.ru.roster.map (·.id)).Nodup →
          t.ru.roster =
            (committedRoster s.sc.u s.ru.par.flashTime w.deps).map fun d =>
              { d with
                announced :=
                  announcedAfter s.ru.par.delayStep (w.notes.filter (noteStands w.deps)) d.id d.announced }) ∧
        ((s.ru.notices.map (·.id)).Nodup →
          t.ru.notices =
            (commitRU s.sc.u w s.ru).notices.map fun n =>
              if .notice n.id ∈ w.notes ∧ n.speak = true then { n with lastSpoken := some s.sc.u } else n)) ∧
      ∀ wall day, w.notes = [.setTime wall day] →
        t.sc =
          { s.sc with
            t := stationTimeOf wall s.sc.rollover, day := day, slew := 0, candidate := none, clock := .holdover } ∧
        t.xp.attn.getLsbD 2 = true

/-- A sheet of one entry about a departure (R80 to R86, R90): the code and index it aborts with, the first that holds, or
what it makes of the departure it names, every other departure being as before, and the number of cues it makes. With room
in the queue and no frame starting, the PLATFORM_CHANGE call of a move stands in the queue. -/
def Obligations.DepartureEntriesTakeEffect : Prop :=
  ∀ (s : State) (r : MemReq) (j : SheetJob) (e : Entry), SheetReads s r j [e] → RosterInv s.ru → PlatformInv s →
    (∀ d ∈ s.ru.roster, MovedFromInv d) → s.ru.notices.length ≤ 24 →
    ∃ t, exec .fetchCompletion s = .next t ∧ t.mem = s.mem ∧
      match e with
      | .add id sched kind quiet given dest platform delay label =>
        if id = 0 ∨ id = 65535 ∨ 1439 < sched ∨ 7 < kind ∨ s.wc.nameSize ≤ dest ∨
            (platform ≠ 0 ∧ platform ≠ 255 ∧ inService s platform = false) then
          aborted s t j 5 0
        else if findDep s id ≠ none then aborted s t j 7 0
        else if platform ≠ 0 ∧ platform ≠ 255 ∧ closedIn s.ru.closed platform = true then aborted s t j 10 255
        else if 192 ≤ s.ru.roster.length then aborted s t j 11 255
        else
          applied s t j ∧ t.ru.roster.length = s.ru.roster.length + 1 ∧
            ∃ dly,
              dly =
                (if given = false then Delay.known 0
                 else if delay = 0xFFFF then .unknown
                 else .known (min delay 719)) ∧
              departureIs s t id
                (some
                  ⟨id, label, kind, quiet, sched, dly,
                    if delayCondition s.ru.par.delayStep (.known 0) dly = true then dly else .known 0, none, dest, [],
                    if platform = 0 ∨ platform = 255 then none else some platform, [], none, .listed, s.sc.u, none,
                    false⟩) ∧
              t.cq.nextSeq =
                sequenceAfter s.cq.nextSeq
                  (if delayCondition s.ru.par.delayStep (.known 0) dly = true ∧ quiet = false then 1 else 0)
      | .setCalls id names =>
        if ∃ n ∈ names, s.wc.nameSize ≤ n then aborted s t j 5 0
        else
          amends s t j id fun d =>
            applied s t j ∧ departureIs s t id (some { d with calls := names.take 16 }) ∧ t.cq.nextSeq = s.cq.nextSeq
      | .setDelay id delay reason =>
        if ∃ n, reason = some n ∧ s.wc.nameSize ≤ n then aborted s t j 5 0
        else
          amends s t j id fun d =>
            applied s t j ∧
              ∃ dly, dly = (if delay = 0xFFFF then Delay.unknown else .known (min delay 719)) ∧
                departureIs s t id
                  (some
                    { d with
                      delay := dly, reason := reason.or d.reason
                      announced :=
                        if delayCondition s.ru.par.delayStep d.announced dly = true then dly else d.announced }) ∧
                t.cq.nextSeq =
                  sequenceAfter s.cq.nextSeq
                    (if delayCondition s.ru.par.delayStep d.announced dly = true ∧ d.quiet = false then 1 else 0)
      | .setPlatform id platform =>
        if platform ≠ 0 ∧ inService s platform = false then aborted s t j 5 0
        else
          amends s t j id fun d =>
            if platform ≠ 0 ∧ closedIn s.ru.closed platform = true then aborted s t j 10 255
            else
              applied s t j ∧
                ∃ new, new = (if platform = 0 then none else some platform) ∧
                  departureIs s t id (some (afterMove s d new)) ∧
                  t.cq.nextSeq =
                    sequenceAfter s.cq.nextSeq (if changesPlatform d new = true ∧ d.quiet = false then 1 else 0) ∧
                  (changesPlatform d new = true → d.quiet = false → s.wc.frame ≠ none → s.cq.queue.length < 32 →
                    ∃ c ∈ t.cq.queue, c.kind = .platformChange ∧ c.seq = s.cq.nextSeq ∧ c.platform = new ∧
                      c.oldPlatform = d.platform ∧ ∃ x, c.dep = some x ∧ x.id = id)
      | .cancel id reason =>
        if ∃ n, reason = some n ∧ s.wc.nameSize ≤ n then aborted s t j 5 0
        else
          amends s t j id fun d =>
            applied s t j ∧
              departureIs s t id
                (some
                  (if d.state = .cancelled then d
                   else
                     { d with
                       state := .cancelled, stamp := s.sc.u, movedFrom := [], flashEnd := none
                       reason := reason.or d.reason })) ∧
              t.cq.nextSeq =
                sequenceAfter s.cq.nextSeq (if d.state ≠ .cancelled ∧ d.quiet = false then 1 else 0)
      | .reinstate id =>
        match findDep s id with
        | none => aborted s t j 6 0
        | some d =>
          applied s t j ∧
            departureIs s t id
              (some (if d.state = .cancelled then { d with state := .listed, stamp := s.sc.u } else d)) ∧
            t.cq.nextSeq =
              sequenceAfter s.cq.nextSeq
                (if d.state = .cancelled ∧ d.quiet = false ∧
                    s.cq.queue.any (fun c => decide (c.kind = .cancellation) && isCallOf [id] c) = false then 1
                 else 0)
      | .withdraw id =>
        match findDep s id with
        | none => aborted s t j 6 0
        | some _ =>
          applied s t j ∧ departureIs s t id none ∧ t.cq.nextSeq = s.cq.nextSeq ∧
            (∀ c ∈ t.cq.queue, isCallOf [id] c = false) ∧
            ∀ n, n ∈ t.ru.notices ↔ n ∈ s.ru.notices ∧ n.scope ≠ .departure id
      | .clearRoster =>
        applied s t j ∧ t.ru.roster = [] ∧ t.cq.nextSeq = s.cq.nextSeq ∧
          (∀ c ∈ t.cq.queue, isCallOf (s.ru.roster.map (·.id)) c = false) ∧
          ∀ n, n ∈ t.ru.notices ↔ n ∈ s.ru.notices ∧ ∀ id, n.scope ≠ .departure id
      | _ => True

/-- A sheet of one entry about a notice, a platform, the clock or the names (R47, R48, R62, R68, R80, R87 to R90, R97,
R101, R125): the code and index it aborts with, the first that holds, or what it does. -/
def Obligations.OtherEntriesTakeEffect : Prop :=
  ∀ (s : State) (r : MemReq) (j : SheetJob) (e : Entry), SheetReads s r j [e] → RosterInv s.ru → PlatformInv s →
    s.ru.notices.length ≤ 24 → (s.ru.notices.map (·.id)).Nodup →
    s.pu.platformCount ≤ s.ru.closed.length → s.pu.platformCount ≤ s.pu.platforms.length →
    ∃ t, exec .fetchCompletion s = .next t ∧ t.mem = s.mem ∧
      match e with
      | .postNotice id code value priority text speak repeatMin durationS =>
        match scopeOf code value with
        | none => aborted s t j 5 0
        | some scope =>
          if id = 0 ∨ badScope s scope = true ∨ 3 < priority ∨ s.wc.nameSize ≤ text then aborted s t j 5 0
          else if (match scope with | .departure k => (findDep s k).isNone | _ => false) = true then aborted s t j 6 0
          else if 24 ≤ (s.ru.notices.filter fun n => n.id ≠ id).length then aborted s t j 12 255
          else
            applied s t j ∧ t.ru.nextPosting = s.ru.nextPosting % (2 ^ 40 - 1) + 1 ∧
              noticeIs s t id
                (some
                  ⟨id, scope, priority, text, speak, min repeatMin 60, min durationS 86400, s.ru.nextPosting, s.sc.u,
                    if speak = true then some s.sc.u else none⟩)
      | .endNotice id => if id = 0 then aborted s t j 5 0 else applied s t j ∧ noticeIs s t id none
      | .closure p close =>
        if inService s p = false then aborted s t j 5 0
        else if close = true ∧ ∃ d ∈ s.ru.roster, d.platform = some p then aborted s t j 10 255
        else
          applied s t j ∧ closedIn t.ru.closed p = close ∧ ∀ q, q ≠ p → closedIn t.ru.closed q = closedIn s.ru.closed q
      | .restoreContact p =>
        match inService s p, (platformRec s p).line with
        | true, some line =>
          applied s t j ∧
            platformRec t p =
              { platformRec s p with
                contact := .unknown, history := []
                pending :=
                  if s.xp.run = .running then
                    some ⟨xor (lineLevel s line) (platformRec s p).presentWhenLow, s.sc.u⟩
                  else none }
        | _, _ => aborted s t j 5 0
      | .setTime day wall =>
        if 86400000 ≤ wall ∨ 65535 ≤ day ∨
            (s.sc.clock ≠ .unset ∧ day ≠ s.sc.day ∧ day ≠ (s.sc.day + 1) % 65535) then
          aborted s t j 9 0
        else
          applied s t j ∧ t.xp.attn.getLsbD 2 = true ∧
            t.sc =
              { s.sc with
                t := (((wall : Int) - s.sc.rollover * 60000) % 86400000).toNat
                day := day, slew := 0, candidate := none, clock := .holdover }
      | .flushNames idx =>
        if idx ≠ 0xFFFF ∧ s.wc.nameSize ≤ idx then aborted s t j 5 0
        else
          applied s t j ∧
            (∀ k, cacheFind k t.wc.cache = if idx = 0xFFFF ∨ k = idx then none else cacheFind k s.wc.cache) ∧
            ∀ f, s.wc.fetch = some f → idx = 0xFFFF ∨ f.miss.idx = idx →
              ∃ f', t.wc.fetch = some f' ∧ f'.once = true ∧ f'.miss.idx = f.miss.idx
      | _ => True

/-- The result and then DONE are written; at the DONE write SHEET_DONE is raised and the flight ends (R74, R174). -/
def Obligations.ResultThenDone : Prop :=
  ∀ (s : State) (r : MemReq) (j : SheetJob), s.xp.sheet = some j →
    (awaited .resultWrite r s →
      ∃ t, exec .resultWriteComplete s = .next t ∧ t.mem = Memory.writeBytes s.mem r.addr r.data ∧ t.ru = s.ru ∧
        t.xp.sheet = some { j with phase := .doneWrite } ∧
        requested ⟨.doneWrite, linkAddr (s.xp.xbase.toNat * 65536 + 0x2000 + 1024 * j.slot), 4, leBytes 4 3⟩ t) ∧
    (awaited .doneWrite r s →
      ∃ t, exec .doneWriteComplete s = .next t ∧ t.mem = Memory.writeBytes s.mem r.addr r.data ∧ t.ru = s.ru ∧
        t.sc = s.sc ∧ t.xp.attn.getLsbD 0 = true ∧ (s.xp.postQueue = [] ∨ s.xp.run ≠ .running → t.xp.sheet = none) ∧
        (∀ n rest, s.xp.postQueue = n :: rest → s.xp.run = .running →
          t.xp.postQueue = rest ∧
          requested ⟨.headerRead, linkAddr (s.xp.xbase.toNat * 65536 + 0x2000 + 1024 * n), 32, []⟩ t))

/-- After the structure, the day stamp is judged, and after it the guard (R78, R79): the code, index 255, no clamp, and
no change of any record or of the generation. A guard that is clear does not read the expected generation. -/
def Obligations.DayStampAndGuard : Prop :=
  ∀ (s : State) (h : SheetHeader) (bs : List Byte) (es : List Entry), checkStructure h.unitCount bs = .ok es →
    (h.dayStamp ≠ 0xFFFF → h.dayStamp ≠ s.sc.day →
      sheetResult h (some bs) s = ⟨.staleDay, 255, 0, s.ru.generation, none, 0⟩ ∧ applySheet h (some bs) s = s) ∧
    (h.dayStamp = 0xFFFF ∨ h.dayStamp = s.sc.day → h.guard = true → h.expected ≠ s.ru.generation →
      sheetResult h (some bs) s = ⟨.changed, 255, 0, s.ru.generation, none, 0⟩ ∧ applySheet h (some bs) s = s) ∧
    (h.guard = false → ∀ n, judgeSheet { h with expected := n } (some bs) s = judgeSheet h (some bs) s) ∧
    (h.dayStamp = 0xFFFF ∨ h.dayStamp = s.sc.day → h.guard = false ∨ h.expected = s.ru.generation →
      ∀ f, judgeSheet h (some bs) s = .error f → 5 ≤ f.code.number)

/-- The platform change protocol on a record of the working copy (R65), and every case outside it (R66): to the same
platform, from unassigned, to unassigned, and of a CANCELLED departure. That an unassignment also drops the mark that would
start the flash at the commit (flash := false) is the model's reading (log 18). -/
def Obligations.PlatformChangeProtocol : Prop :=
  ∀ (r : WorkDep) (old new : Nat),
    (r.dep.platform = some old → old ≠ new → r.dep.state ≠ .cancelled → MovedFromInv r.dep →
      ∃ l, l = movedFromList old new r.dep.movedFrom ∧
        movePlatform (some new) r =
          { r with
            dep :=
              { r.dep with platform := some new, movedFrom := l, boardingCalled := none, closingCalled := false }
            flash := true
            moved := true } ∧
        old ∈ l ∧ new ∉ l ∧ l.length ≤ 3 ∧ l.Nodup ∧
        changeNote (some new) r = [.platformChange r.key old new]) ∧
    (movePlatform r.dep.platform r = r ∧ changeNote r.dep.platform r = []) ∧
    (r.dep.platform = none → r.dep.state ≠ .cancelled →
      movePlatform (some new) r = { r with dep := { r.dep with platform := some new }, moved := true } ∧
      changeNote (some new) r = []) ∧
    (r.dep.platform = some old → r.dep.state ≠ .cancelled →
      movePlatform none r =
        { r with
          dep :=
            { r.dep with
              platform := none, movedFrom := [], flashEnd := none, boardingCalled := none, closingCalled := false }
          flash := false
          moved := true } ∧
      changeNote none r = []) ∧
    (r.dep.state = .cancelled → ∀ p, p ≠ r.dep.platform →
      movePlatform p r =
        { r with dep := { r.dep with platform := p, boardingCalled := none, closingCalled := false }, moved := true } ∧
      changeNote p r = [])

/-! ### The layout -/

/-- A start that fails applies nothing (R181, R182): the part is STOPPED with the fault's code and index. Which of several
conflicts of one cause gives the index is the model's choice (log 29), and so is which of several bad templates (log 45). -/
def Obligations.FailedStartAppliesNothing : Prop :=
  ∀ (s : State) (r : MemReq) (levels driven : BitVec 48) (f : StartFault), awaited .layoutRead r s →
    s.xp.run = .starting →
    (s.xp.stopRequested = true ∧ f = ⟨9, 0⟩) ∨
      (s.xp.stopRequested = false ∧ checkLayout (layoutAt s.mem r.addr) = some f) →
    ∃ t, exec (.layoutReadComplete ⟨levels, driven⟩) s = .next t ∧ t = { s with xp := t.xp } ∧ t.xp.run = .stopped ∧
      t.xp.attn = s.xp.attn ||| 64#7 ∧ t.xp.faultCode = f.code ∧ t.xp.faultIndex = f.index ∧
      t.xp.clampCount = s.xp.clampCount ∧ t.xp.publication ≠ none

/-- A layout that passes every check is applied (R183): its parameters are taken into their blocks, absent ones at their
defaults and others clamped, with the clamps counted (which ones count, log 31); the lanes are empty and idle (log 17),
every duty is 0, each line has its function and each output its inactive level (a LANE line's, log 40); a line that
becomes CONTACT or MARK holds its first sample (R131 to R133; what a sample is, and that a line that keeps its function
keeps its level, log 9); departures, moved-from lists and notices meet the platform count; the name cache and the sent
images are empty and the boards' pages set; the start fault is 0 and the part RUNNING. Then each platform with a contact
line starts its baseline, each clock panel has its record, and the first frame is requested. A platform above the count,
log 35; an unconfigured dim channel, log 33; names on their way, logs 25 and 47. -/
def Obligations.LayoutIsApplied : Prop :=
  ∀ (s : State) (r : MemReq) (levels driven : BitVec 48) (rd : LayoutReader), rd = layoutAt s.mem r.addr →
    awaited .layoutRead r s → s.xp.run = .starting → s.xp.stopRequested = false → checkLayout rd = none →
    ∃ m b q t, exec (.layoutReadComplete ⟨levels, driven⟩) s = .next t ∧
      m =
        { s with
          xp :=
            { s.xp with
              run := .running, attn := s.xp.attn ||| 64#7, faultCode := 0, faultIndex := 0
              clampCount := layoutClamps rd % 2 ^ 32 }
          ru := rosterTaken rd s.sc.u s.ru
          pu := m.pu
          sc :=
            { s.sc with
              rollover := layoutField rd 0x20 2 0 1439 180, stepLimit := layoutField rd 0x22 2 500 30000 3000 }
          wc := m.wc, fu := m.fu, cq := m.cq } ∧
      ComposerTakes rd s.sc.u s.wc m.wc ∧ CuesTake rd s.cq m.cq ∧
      m.fu.lanes = s.fu.lanes.map (fun _ => ⟨[], [], none, []⟩) ∧ m.fu.sensors = s.fu.sensors.map (fun _ => []) ∧
      m.fu.lines.length = s.fu.lines.length ∧ m.fu.dims.length = s.fu.dims.length ∧
      (∀ (i : Nat) (old : FieldLine), s.fu.lines[i]? = some old →
        ∃ l, m.fu.lines[i]? = some l ∧ l.fn = layoutFn rd i ∧ l.pulseEnd = none ∧
          (∀ pull, l.fn = .contact pull →
            l.level = if old.fn.isContact = true then old.level else (levels.getLsbD i || (pull && !driven.getLsbD i))) ∧
          (∀ e, l.fn = .mark e → l.level = if old.fn.isMark = true then old.level else levels.getLsbD i) ∧
          (∀ low width, l.fn = .strobe low width → lineDrive m.fu i = .level low) ∧
          (∀ n, l.fn = .lane n → lineDrive m.fu i = .level false) ∧
          ((∃ pull, l.fn = .contact pull) ∨ (∃ e, l.fn = .mark e) ∨ l.fn = .idle ∨ l.fn = .analog →
            lineDrive m.fu i = .nothing)) ∧
      (∀ (k : Nat) (old : Dim), s.fu.dims[k]? = some old →
        ∃ d, m.fu.dims[k]? = some d ∧ d.duty = 0 ∧
          (layoutFn rd (32 + 2 * k) = .dimTrue ∧ layoutFn rd (33 + 2 * k) = .dimComp →
            d.par = layoutDim rd k ∧
            (33 + 2 * k < s.fu.lines.length →
              lineDrive m.fu (32 + 2 * k) = .periods none ∧ lineDrive m.fu (33 + 2 * k) = .periods (some (0, 10000)))) ∧
          (layoutFn rd (32 + 2 * k) ≠ .dimTrue ∨ layoutFn rd (33 + 2 * k) ≠ .dimComp →
            d.par = old.par ∧ d.drive = none)) ∧
      b = { m with pu := b.pu } ∧ b.pu.platformCount = rd 0x06 1 ∧
      (∀ p, 1 ≤ p → p ≤ 32 →
        b.pu.platforms[p - 1]? =
          some
            (platformTaken rd
              ((layoutOption rd (0x140 + 8 * (p - 1)) 1).map fun l =>
                ⟨xor (lineLevel m l) ((rd (0x141 + 8 * (p - 1)) 1).testBit 0), s.sc.u⟩) p)) ∧
      exec .frameRequest (clockRecords b) = .next q ∧ t = releaseLink q ∧
      t.xp.run = .running ∧ t.xp.attn = s.xp.attn ||| 64#7 ∧ t.xp.faultCode = 0 ∧ t.xp.faultIndex = 0 ∧
      t.xp.clampCount = layoutClamps rd % 2 ^ 32 ∧ t.mem = s.mem ∧ t.ru = m.ru ∧ t.sc = m.sc ∧ t.pu = b.pu ∧
      t.fu = { m.fu with lanes := t.fu.lanes } ∧
      (∀ d ∈ t.ru.roster, (∀ p, d.platform = some p → p ≤ t.pu.platformCount) ∧
        ∀ p ∈ d.movedFrom, p ≤ t.pu.platformCount) ∧
      (∀ (p : Panel) (seconds : Bool), p ∈ t.wc.panels → p.kind = .clock seconds → p.lane < s.fu.lanes.length →
        ∃ l, t.fu.lanes[p.lane]? = some l ∧
          ∃ c : ClockRec, (c ∈ l.clockQueue ∨ l.sending = some (.clock c)) ∧ c.addr = p.addr ∧
            c.holdover = decide (s.sc.clock = .holdover) ∧
            c.text =
              (if s.sc.clock = .unset then unsetClockText
               else if seconds then hhmmss (wallTime m.sc.rollover s.sc.t)
               else hhmm (wallTime m.sc.rollover s.sc.t / 60000))) ∧
      (s.wc.frame = none → s.wc.frameWanted = false →
        t.wc.framesStarted = (s.wc.framesStarted + 1) % 2 ^ 32 ∧ t.wc.lastSnapshot = some s.sc.u)

/-! ### The roster -/

/-- A running tick and a station second make one evaluation pass (R13): in RUNNING each departure makes exactly the
transition or removal of the state table whose condition holds at its visit (R15 to R18, R22 to R24), by the countdowns
and the contacts at the event, and every other departure stays; outside RUNNING the roster stays. BOARDING and CLOSING
turn into each other at a usable contact too (log 42). The notices of a removed departure leave (R25); each cue that a
transition or removal asks for is created (R7, R17, R25); the pass ends with a frame request when it made one, and makes
none otherwise. A running tick that is not due changes nothing (the model's choice, log 3). -/
def Obligations.EvaluationFollowsTheStateTable : Prop :=
  ∀ (s : State) (c : Instr),
    (atRunningTick s = false → exec .runningTick s = .next s) ∧
    ((c = .runningTick ∧ s.sc.u % 1000 = 0 ∧ s.sc.u ≠ 0) ∨ (c = .stationSecond ∧ s.sc.clock ≠ .unset) →
      (s.ru.roster.map (·.id)).Nodup →
      ∃ t, exec c s = .next t ∧ t.sc = s.sc ∧ t.pu = s.pu ∧ t.mem = s.mem ∧ t.ru.closed = s.ru.closed ∧
        t.ru.generation = s.ru.generation ∧ t.ru.par = s.ru.par ∧
        (s.xp.run ≠ .running → t = s) ∧
        (s.xp.run = .running → (t.ru.roster.map (·.id)).Sublist (s.ru.roster.map (·.id)) ∧
          t.ru.notices =
            s.ru.notices.filter (fun n =>
              match n.scope with
              | .departure k => (findDep s k).isNone || (findDep t k).isSome
              | _ => true) ∧
          t.cq.nextSeq =
            sequenceAfter s.cq.nextSeq (s.ru.roster.countP fun d => passCue d (findDep t d.id)) ∧
          ((∀ d ∈ s.ru.roster, findDep t d.id = some d) → t.wc = s.wc) ∧
          ((∃ d ∈ s.ru.roster, findDep t d.id ≠ some d) → AsksForFrame s t) ∧
          ∀ (before after : List Departure) (d : Departure), s.ru.roster = before ++ d :: after →
            match d.state with
            | .listed =>
              if knownAtMost (countdown s d) (-(s.ru.par.stale * 60000 : Nat)) = true then findDep t d.id = none
              else
                (findDep t d.id = some d ∨
                  findDep t d.id =
                    some { d with state := .boarding, stamp := s.sc.u, boardingCalled := d.platform }) ∧
                ((∃ e, findDep t d.id = some e ∧ e.state = .boarding) ↔
                  ∃ p, d.platform = some p ∧ mayBoard s d p ∧ platformFree s t p before after)
            | .boarding =>
              findDep t d.id =
                some
                  (if timeRuled s d = true ∧ knownAtMost (countdown s d) (-(s.ru.par.grace * 1000 : Nat)) = true then
                    { d with state := .departed, stamp := s.sc.u, movedFrom := [], flashEnd := none }
                  else if knownAtMost (countdown s d) (s.ru.par.close * 1000) = true then
                    { d with state := .closing, stamp := s.sc.u, closingCalled := true }
                  else d)
            | .closing =>
              findDep t d.id =
                some
                  (if timeRuled s d = true ∧ knownAtMost (countdown s d) (-(s.ru.par.grace * 1000 : Nat)) = true then
                    { d with state := .departed, stamp := s.sc.u, movedFrom := [], flashEnd := none }
                  else if knownAbove (countdown s d) (s.ru.par.close * 1000) = true then
                    { d with state := .boarding, stamp := s.sc.u }
                  else d)
            | .departed =>
              findDep t d.id = if d.stamp + s.ru.par.gone * 1000 ≤ s.sc.u then none else some d
            | .cancelled =>
              findDep t d.id =
                if s.sc.clock ≠ .unset ∧ d.sched * 60000 - s.sc.t ≤ -(s.ru.par.cancel * 60000 : Nat) then none
                else some d))

/-- Running ticks in every run state: flashes end (R67) and notices expire (R99); notices are spoken again in RUNNING
alone, an expiring one not, and each makes a cue unless it is about a quiet departure (R99, R102, R143). In RUNNING a
flash that ends and a notice that expires ask for a frame. A FLASH_END that is not due changes nothing (the model's
choice, log 3). -/
def Obligations.RunningTicksEndFlashesAndNotices : Prop :=
  ∀ s : State,
    (atRunningTick s = true →
      ∃ t, exec .flashEnd s = .next t ∧
        t = { s with xp := t.xp, ru := t.ru, wc := t.wc, fu := t.fu, cq := t.cq } ∧
        t.ru =
          { s.ru with
            roster :=
              s.ru.roster.map fun d =>
                if ∃ e, d.flashEnd = some e ∧ e ≤ s.sc.u then { d with movedFrom := [], flashEnd := none } else d } ∧
        (s.xp.run ≠ .running ∨ (∀ d ∈ s.ru.roster, ∀ e, d.flashEnd = some e → s.sc.u < e) →
          t = { s with ru := t.ru }) ∧
        (s.xp.run = .running → (∃ d ∈ s.ru.roster, ∃ e, d.flashEnd = some e ∧ e ≤ s.sc.u) → AsksForFrame s t)) ∧
    (atRunningTick s = false → exec .flashEnd s = .next s) ∧
    (atRunningTick s = true → (s.ru.notices.map (·.id)).Nodup →
      (∃ t, exec .noticeExpiry s = .next t ∧ t.sc = s.sc ∧ t.pu = s.pu ∧ t.mem = s.mem ∧
        t.ru =
          { s.ru with
            notices :=
              s.ru.notices.filter fun n => n.durationS = 0 ∨ s.sc.u < n.postedAt + n.durationS * 1000 } ∧
        (s.xp.run ≠ .running ∨ t.ru.notices = s.ru.notices → t = { s with ru := t.ru }) ∧
        (s.xp.run = .running → t.ru.notices ≠ s.ru.notices → AsksForFrame s t)) ∧
      (∃ t, exec .noticeRepeat s = .next t ∧ t = { s with ru := t.ru, cq := t.cq, xp := t.xp } ∧
        (s.xp.run ≠ .running → t = s) ∧
        (s.xp.run = .running →
          t.ru =
            { s.ru with
              notices :=
                s.ru.notices.map fun n =>
                  if repeatDue s.sc.u n = true then { n with lastSpoken := some s.sc.u } else n } ∧
          t.cq.nextSeq =
            sequenceAfter s.cq.nextSeq
              (s.ru.notices.countP fun n => repeatDue s.sc.u n && noticeAloud s n))))

/-- Contact edges (R19, R63, R64): a PRESENT edge changes nothing; an ABSENT edge departs the boarding departure, or
returns it to LISTED when its countdown is above the limit, and changes no other departure. A departure makes a DEPARTED
report, and a return no cue; in RUNNING the edge asks for a frame (R17, R19), also with no boarding departure (log 27). -/
def Obligations.EdgesActOnTheBoardingDeparture : Prop :=
  ∀ (s : State) (p : Nat), exec (.presentEdge p) s = .next s ∧
    ∃ t, exec (.absentEdge p) s = .next t ∧ t.sc = s.sc ∧ t.pu = s.pu ∧ t.mem = s.mem ∧
      (s.xp.run ≠ .running → t = { s with ru := t.ru, cq := t.cq, xp := t.xp }) ∧
      (s.xp.run = .running → AsksForFrame s t) ∧
      (boardingAt s.ru.roster p = none → t.ru = s.ru ∧ t.cq.nextSeq = s.cq.nextSeq) ∧
      ∀ d, boardingAt s.ru.roster p = some d →
        t.ru =
          { s.ru with
            roster :=
              s.ru.roster.map fun e =>
                if e.id = d.id then
                  if knownAbove (countdown s d) (s.ru.par.depart * 1000) = true then
                    { e with state := .listed, stamp := s.sc.u }
                  else { e with state := .departed, stamp := s.sc.u, movedFrom := [], flashEnd := none }
                else e } ∧
        (knownAbove (countdown s d) (s.ru.par.depart * 1000) = true → t.cq.nextSeq = s.cq.nextSeq) ∧
        (knownAbove (countdown s d) (s.ru.par.depart * 1000) = false →
          t.cq.nextSeq = (s.cq.nextSeq + 1) % 2 ^ 32 ∧
          (s.wc.frame ≠ none → s.cq.queue.length < 32 →
            ∃ c ∈ t.cq.queue, c.kind = .departed ∧ c.seq = s.cq.nextSeq ∧ ∃ x, c.dep = some x ∧ x.id = d.id))

/-! ### The clock -/

/-- Advances of T by their commands (R27, R34, R38, R43). At a slew point T advances by 2, by 0 or by 1 as P is above, below
or at 0, and P comes one nearer to 0; a second crossed issues a station second and a minute crossed a station minute. An
advance that reaches the end of the day, at a slew point or at DAY_ROLLOVER, leaves the excess in T, raises the day number
with its wrap, carries the roster (the departures with S not below 0 stay, each 1440 lower, in their order, and the notices
of the others leave), raises CLOCK_EVENT, and then issues a station second and a station minute, in every run state. That
SLEW_POINT and DAY_ROLLOVER are the advance itself, with all it crosses, is the model's choice (log 34), and so is that a
command that is not due changes nothing (log 3). -/
def Obligations.AdvancesMoveTime : Prop :=
  ∀ s : State,
    (s.sc.clock = .unset ∨ s.sc.t + 1 ≠ 86400000 → exec .dayRollover s = .next s) ∧
    (s.sc.u % 100 = 0 → s.sc.u ≠ 0 → s.sc.clock = .unset → exec .slewPoint s = .next s) ∧
    ∀ (c : Instr) (n : Nat) (rest : Int), s.sc.clock ≠ .unset →
      (c = .slewPoint ∧ s.sc.u % 100 = 0 ∧ s.sc.u ≠ 0 ∧
          n = (if 0 < s.sc.slew then 2 else if s.sc.slew < 0 then 0 else 1) ∧
          rest = (if 0 < s.sc.slew then s.sc.slew - 1 else if s.sc.slew < 0 then s.sc.slew + 1 else 0)) ∨
        (c = .dayRollover ∧ s.sc.t = 86399999 ∧ n = 1 ∧ rest = s.sc.slew) →
      ∃ t, exec c s = .next t ∧ t.pu = s.pu ∧ t.mem = s.mem ∧ t.ru.generation = s.ru.generation ∧
        (s.sc.t + n < 86400000 →
          t.sc = { s.sc with t := s.sc.t + n, slew := rest } ∧
          (s.sc.t / 1000 = (s.sc.t + n) / 1000 → t = { s with sc := t.sc }) ∧
          (s.sc.t / 1000 ≠ (s.sc.t + n) / 1000 →
            ∃ m, exec .stationSecond { s with sc := t.sc } = .next m ∧
              if s.sc.t / 60000 = (s.sc.t + n) / 60000 then t = m else exec .stationMinute m = .next t)) ∧
        (86400000 ≤ s.sc.t + n →
          t.sc = { s.sc with t := s.sc.t + n - 86400000, day := (s.sc.day + 1) % 65535, slew := rest } ∧
          t.xp.attn.getLsbD 2 = true ∧
          ∃ m m', exec .stationSecond m = .next m' ∧ exec .stationMinute m' = .next t ∧
            m = { s with xp := m.xp, ru := m.ru, sc := t.sc, cq := m.cq } ∧ m.xp.attn = s.xp.attn ||| 4#7 ∧
            ((s.ru.roster.map (·.id)).Nodup →
              m.ru =
                { s.ru with
                  roster := (s.ru.roster.filter fun d => 0 ≤ d.sched).map fun d => { d with sched := d.sched - 1440 }
                  notices :=
                    s.ru.notices.filter fun n => ∀ d ∈ s.ru.roster, d.sched < 0 → n.scope ≠ .departure d.id }))

/-- The holdover timeout (R46); when it is not due the command changes nothing (the model's choice, log 3). -/
def Obligations.HoldoverTimeout : Prop :=
  ∀ s : State,
    (s.sc.clock = .tracking → (∃ m, s.sc.lastMark = some m ∧ m + 150000 ≤ s.sc.u) →
      ∃ t, exec .holdoverTimeout s = .next t ∧ t = { s with sc := t.sc, cq := t.cq, xp := t.xp } ∧
        t.sc = { s.sc with clock := .holdover, candidate := none } ∧ t.xp.attn = s.xp.attn ||| 4#7 ∧
        t.cq.nextSeq = (s.cq.nextSeq + 1) % 2 ^ 32) ∧
    (s.sc.clock ≠ .tracking ∨ (∀ m, s.sc.lastMark = some m → s.sc.u < m + 150000) →
      exec .holdoverTimeout s = .next s)

/-- At an accepted mark the offset is computed from T as it stands, and judged against the step limit (R41). -/
def Obligations.MarkOffsetIsTheNearestMinute : Prop :=
  ∀ s : State,
    (markAccepted s = true → takeMark s = disciplineMark { s with sc := { s.sc with lastMark := some s.sc.u } }) ∧
    markOffset s.sc.t = (((s.sc.t % 60000 + 30000) % 60000 : Nat) : Int) - 30000 ∧
    -30000 ≤ markOffset s.sc.t ∧ markOffset s.sc.t ≤ 29999 ∧
    (∃ k : Int, (s.sc.t : Int) - markOffset s.sc.t = 60000 * k) ∧
    ((markOffset s.sc.t).natAbs ≤ s.sc.stepLimit → disciplineMark s = slewMark (markOffset s.sc.t) s) ∧
    (s.sc.stepLimit < (markOffset s.sc.t).natAbs → disciplineMark s = stepMark (markOffset s.sc.t) s)

/-- A mark (R40, R42, R133, R134): a change that does not match, or comes within the bounce time, or in UNSET, moves the
held level alone; a matching one within the step limit sets P to −O and enters TRACKING. -/
def Obligations.MarksSlewOrBounce : Prop :=
  ∀ (s : State) (line : Nat) (e : MarkEdge) (level : Bool), markLine s.fu.lines = some (line, e, !level) →
    ∃ t, exec (.mark level) s = .next t ∧ t.mem = s.mem ∧ t.pu = s.pu ∧
      (e.admits level = false ∨ markAccepted s = false →
        t = { s with fu := t.fu } ∧
        t.fu = { s.fu with lines := s.fu.lines.modify line fun l => { l with level := level } }) ∧
      (e.admits level = true → markAccepted s = true → (markOffset s.sc.t).natAbs ≤ s.sc.stepLimit →
        t.sc =
          { s.sc with
            slew := -(markOffset s.sc.t), candidate := none, clock := .tracking, lastMark := some s.sc.u } ∧
        t.fu = { s.fu with lines := s.fu.lines.modify line fun l => { l with level := level } } ∧
        (s.sc.clock = .tracking → t = { s with sc := t.sc, fu := t.fu }) ∧
        (s.sc.clock = .holdover → t.xp.attn = s.xp.attn ||| 4#7 ∧ t.cq.nextSeq = (s.cq.nextSeq + 1) % 2 ^ 32))

/-- A large offset (R44, R45): without a candidate that agrees it becomes the candidate; with one, T is moved to the
nearest whole minute, with a rollover when that is the end of the day, P is 0 and the clock is TRACKING. -/
def Obligations.LargeOffsetsStepTime : Prop :=
  ∀ (s : State) (line : Nat) (e : MarkEdge) (level : Bool), markLine s.fu.lines = some (line, e, !level) →
    e.admits level = true → markAccepted s = true → s.sc.stepLimit < (markOffset s.sc.t).natAbs →
    s.sc.t < 86400000 →
    ∃ t, exec (.mark level) s = .next t ∧ t.mem = s.mem ∧ t.pu = s.pu ∧
      ((∀ k, s.sc.candidate = some k → 1000 < (markOffset s.sc.t - k).natAbs) →
        t = { s with sc := t.sc, fu := t.fu } ∧
        t.fu = { s.fu with lines := s.fu.lines.modify line fun l => { l with level := level } } ∧
        t.sc = { s.sc with candidate := some (markOffset s.sc.t), lastMark := some s.sc.u }) ∧
      ∀ k, s.sc.candidate = some k → (markOffset s.sc.t - k).natAbs ≤ 1000 →
        t.fu =
          { s.fu with
            lines := s.fu.lines.modify line fun l => { l with level := level }
            lanes := t.fu.lanes } ∧
        t.sc.t % 60000 = 0 ∧ (t.sc.t : Int) = ((s.sc.t : Int) - markOffset s.sc.t) % 86400000 ∧
        t.sc.day = (if (s.sc.t : Int) - markOffset s.sc.t < 86400000 then s.sc.day else (s.sc.day + 1) % 65535) ∧
        t.sc.slew = 0 ∧ t.sc.candidate = none ∧ t.sc.clock = .tracking ∧ t.sc.lastMark = some s.sc.u ∧
        t.xp.attn.getLsbD 2 = true

/-! ### Frames and lanes -/

/-- A frame request, a station minute and the frame period (R38, R108): outside RUNNING nothing; during a frame the
frame-wanted mark; otherwise a frame starts at once, with its snapshot at U. The boards' pages move (R117), the names of
its rows are taken or awaited (R111, a name once, log 13), and when it awaits none each row that differs from the sent
image, in a full refresh every row, goes to its lane (R112). -/
def Obligations.FrameRequestsStartOneFrame : Prop :=
  ∀ (s : State) (c : Instr),
    c = .frameRequest ∨ (c = .stationMinute ∧ s.sc.clock ≠ .unset) ∨
      (c = .framePeriod ∧ ∃ l, s.wc.lastSnapshot = some l ∧ l + s.wc.framePeriod ≤ s.sc.u) →
    (s.xp.run ≠ .running → exec c s = .next s) ∧
    (s.xp.run = .running → s.wc.frame ≠ none → exec c s = .next { s with wc := { s.wc with frameWanted := true } }) ∧
    (s.xp.run = .running → s.wc.frame = none → s.wc.frameWanted = false →
      ∃ t, exec c s = .next t ∧ t = { s with xp := t.xp, wc := t.wc, fu := t.fu, cq := t.cq } ∧
        t.wc.framesStarted = (s.wc.framesStarted + 1) % 2 ^ 32 ∧ t.wc.lastSnapshot = some s.sc.u ∧
        (t.wc.frame = none → t.wc.framesCompleted = (s.wc.framesCompleted + 1) % 2 ^ 32) ∧
        (t.wc.frame ≠ none → t.wc.framesCompleted = s.wc.framesCompleted) ∧ ∃ f, FrameBegins f s t)

/-- What panels show of a snapshot (R10, R29, R105, R115, R116, R118 to R120, R122). A board shows its candidates, in
roster order, in its fixed rows and the rows of its page, none twice, and with a paged row each on some page; its notice
row the first WALL notice. A platform panel shows the closed text, a notice of priority 0, or the front departure, its
notice or calling points, and the redirect, notice or departure next in turn. A strip shows the WALL notices. That a
field's parts are joined without anything between is log 14, and the colour class of other rows than a board's departure
rows log 36. -/
def Obligations.PanelsShowTheSnapshot : Prop :=
  ∀ (sn : Snapshot) (tx : FixedTexts) (colours : List Nat) (copies : List (Nat × NameText)) (p : Panel)
    (rows : List Row), rows = (sn.panelRows tx colours p).map (·.resolve copies) →
    (∀ b, p.kind = .board b → 1 ≤ b.rows →
      rows.length = b.rows ∧
      (sn.candidates b).Sublist sn.deps ∧ (∀ d, d ∈ sn.candidates b ↔ IsCandidate sn b d) ∧
      (∀ j, j < departureRows b →
        rows[j]? =
          some
            (match (sn.candidates b)[candidateIn b p.page j]? with
             | some d => departureText sn tx colours copies d
             | none => plainText [[], [], [], []])) ∧
      (b.noticeRow = true →
        rows[b.rows - 1]? =
          some
            (plainText [displayOf copies ((sn.notices.find? fun n => n.scope = .wall).map (·.text))])) ∧
      (∀ i j k, j < departureRows b → k < departureRows b → candidateIn b i j = candidateIn b i k → j = k) ∧
      (fixedRows b < departureRows b →
        ∀ i, i < (sn.candidates b).length →
          ∃ page j, page < pageCount sn b ∧ j < departureRows b ∧ candidateIn b page j = i)) ∧
    (∀ n, p.kind = .platform n →
      (n ∈ sn.closed → rows = List.replicate 3 (plainText [displayOf copies tx.closedText])) ∧
      (n ∉ sn.closed →
        (∀ x, (sn.notices.find? fun x => x.scope = .platform n ∧ x.priority = 0) = some x →
          rows = List.replicate 3 (plainText [displayOf copies (some x.text)])) ∧
        ((∀ x ∈ sn.notices, x.scope = .platform n → x.priority ≠ 0) →
          rows =
            [(frontOf sn n).elim (plainText [displayOf copies tx.noDepartures]) (panelText sn tx copies),
              rowTwo sn tx copies n, rowThree sn tx copies n]))) ∧
    (∀ b, p.kind = .clock b → rows = []) ∧
    (p.kind = .strip →
      rows =
        [plainText
          [List.intercalate (displayOf copies tx.separator)
            ((sn.notices.filter fun n => n.scope = .wall).map fun n => displayOf copies (some n.text))]])

/-- The clock records of a station second or of START (R121, R128): each clock panel's lane holds the record with its wall
time, or is sending it, and no lane's frame queue is touched. A station second makes its evaluation pass first (the model's
reading, log 46), and then these records alone in RUNNING; in another run state it does nothing, and in UNSET, where none is
issued (R38), nothing (the model's choice, log 3). Which record of two clock panels of one lane comes first is the model's
choice (log 43), which shows only in that the records are those of clockRecords. -/
def Obligations.ClockRecordsReachTheirLanes : Prop :=
  ∀ s : State,
    (s.sc.clock ≠ .unset → s.xp.run ≠ .running → exec .stationSecond s = .next s) ∧
    (s.sc.clock ≠ .unset → s.xp.run = .running → exec .stationSecond s = .next (clockRecords (evaluate s))) ∧
    (s.sc.clock ≠ .unset → s.xp.run = .running → s.ru.roster = [] → exec .stationSecond s = .next (clockRecords s)) ∧
    (s.sc.clock = .unset → exec .stationSecond s = .next s) ∧
    (clockRecords s).fu.lanes.map (·.frameQueue) = s.fu.lanes.map (·.frameQueue) ∧
    ∀ (p : Panel) (seconds : Bool), p ∈ s.wc.panels → p.kind = .clock seconds → p.lane < s.fu.lanes.length →
      (∀ q ∈ s.wc.panels, ∀ b, q.kind = .clock b → q.lane = p.lane → q.addr = p.addr → b = seconds) →
      ∃ l, (clockRecords s).fu.lanes[p.lane]? = some l ∧
        ∃ r : ClockRec, (r ∈ l.clockQueue ∨ l.sending = some (.clock r)) ∧ r.addr = p.addr ∧
          r.holdover = decide (s.sc.clock = .holdover) ∧
          r.text =
            (if s.sc.clock = .unset then unsetClockText
             else if seconds then hhmmss (wallTime s.sc.rollover s.sc.t)
             else hhmm (wallTime s.sc.rollover s.sc.t / 60000))

/-- A transmission completes (R127, R129), in every run state, with a frame in flight or without: the head of the clock
queue is sent next, and otherwise the head of the frame queue, whose place the first waiting record takes, its panel's
sent image with it. Where that leaves a frame unfinished and lets no step of STOPPING end, the command does nothing
else. -/
def Obligations.LaneSendsClockRecordsFirst : Prop :=
  ∀ (s : State) (n : Nat) (l : Lane), s.fu.lanes[n]? = some l → l.sending ≠ none →
    ∃ m, exec (.laneTransmissionComplete n) s = .next (advanceStop (progressFrame m)) ∧
      m = { s with wc := { s.wc with panels := m.wc.panels }, fu := { s.fu with lanes := m.fu.lanes } } ∧
      (∀ c cs, l.clockQueue = c :: cs →
        m.fu.lanes = s.fu.lanes.set n { l with clockQueue := cs, sending := some (.clock c) } ∧ m.wc = s.wc) ∧
      (∀ r rs, l.clockQueue = [] → l.frameQueue = r :: rs → l.waiting = [] →
        m.fu.lanes = s.fu.lanes.set n { l with frameQueue := rs, sending := some (.line r) } ∧ m.wc = s.wc) ∧
      (∀ r rs w ws, l.clockQueue = [] → l.frameQueue = r :: rs → l.waiting = w :: ws →
        m.fu.lanes = s.fu.lanes.set n { l with frameQueue := rs ++ [w], sending := some (.line r), waiting := ws } ∧
        ∀ (i : Nat) (p : Panel), s.wc.panels[i]? = some p →
          m.wc.panels[i]? =
            some (if i = w.panel then { p with image := p.image.set (w.row - 1) (some w.content) } else p)) ∧
      (l.clockQueue = [] → l.frameQueue = [] →
        m.fu.lanes = s.fu.lanes.set n { l with sending := none } ∧ m.wc = s.wc) ∧
      (s.wc.frame = none ∨ (∃ f, s.wc.frame = some f ∧ f.emitting = false) ∨ (∃ k ∈ m.fu.lanes, k.waiting ≠ []) →
        (s.xp.run ≠ .stopping ∨ (s.xp.stopStage = some .lane ∧ ∃ k ∈ m.fu.lanes, k.waiting ≠ []) →
          advanceStop (progressFrame m) = m))

/-- A frame completes at the command that makes its last record accepted, or that brings its last name when every record
is then accepted at once (R113, R152, R153, R160, R178): frames-completed rises, the status page is published, cues whose
ticket is reached become eligible, the writer takes one or a page is tried (also with a retry time set, log 12), and a
wanted frame begins. A frame whose last name the command brings has emitted its rows (R112). That the publish count wraps
at 32 bits is the model's choice (log 26). -/
def Obligations.FrameCompletes : Prop :=
  ∀ (s m : State) (c : Instr) (f : Frame),
    (∃ n l, c = .laneTransmissionComplete n ∧ s.fu.lanes[n]? = some l ∧ l.sending ≠ none ∧ m = transmissionDone n s) ∨
      (∃ r, c = .nameReadComplete ∧ awaited .nameRead r s ∧
        m = progressNames (nameReturned (decodeName (readData r s)) s)) →
    s.xp.run = .running → m.wc.frame = some f → f.emitting = true → (∀ l ∈ m.fu.lanes, l.waiting = []) →
    ∃ t q, exec c s = .next t ∧ t.ru = s.ru ∧ t.sc = s.sc ∧ t.pu = s.pu ∧ t.mem = s.mem ∧ t.wc.frameWanted = false ∧
      q = m.cq.queue.map (fun k =>
        if k.ticket = (s.wc.framesCompleted + 1) % 2 ^ 32 then { k with eligible := true } else k) ∧
      (∀ k ∈ t.cq.queue, k.ticket = (s.wc.framesCompleted + 1) % 2 ^ 32 → k.eligible = true) ∧
      (s.xp.publication ≠ none → t.xp.publishWanted = true) ∧
      (s.xp.publication = none → ∃ p, t.xp.publication = some p ∧ p.phase = .odd ∧
        t.xp.publishCount = (s.xp.publishCount + 1) % 2 ^ 32) ∧
      (c = .nameReadComplete → ∀ g, s.wc.frame = some g → g.emitting = false →
        f.snap = g.snap ∧ f.full = g.full ∧ Emits f s m) ∧
      (s.wc.frameWanted = false →
        t.fu = m.fu ∧ t.wc.panels = m.wc.panels ∧ t.wc.frame = none ∧
        t.wc.framesCompleted = (s.wc.framesCompleted + 1) % 2 ^ 32 ∧
        t.wc.framesStarted = s.wc.framesStarted ∧
        (mayTakeCue m = true → ∀ k, q.find? (·.eligible) = some k →
          t.cq.queue = q.erase k ∧ ∃ w, t.cq.writing = some w ∧ w.cue = k) ∧
        (mayTakeCue m = false →
          t.cq.queue = q ∧
          (m.cq.openPage = none → m.cq.attempt ≠ some .reading → q.any (·.eligible) = true →
            t.cq.attempt = some .reading ∧
            requested
              ⟨.stateWordRead, linkAddr (s.xp.xbase.toNat * 65536 + 0x6000 + 4096 * s.cq.cursor), 4, []⟩ t))) ∧
      (s.wc.frameWanted = true →
        t.wc.framesStarted = (s.wc.framesStarted + 1) % 2 ^ 32 ∧ t.wc.lastSnapshot = some s.sc.u ∧
        (t.wc.frame ≠ none → t.wc.framesCompleted = (s.wc.framesCompleted + 1) % 2 ^ 32) ∧
        (t.wc.frame = none → t.wc.framesCompleted = (s.wc.framesCompleted + 2) % 2 ^ 32) ∧
        ∃ g, FrameBegins g m t)

/-- The STOPPING sequence (R61, R126, R165, R184): it waits at a step while what the step waits for is in progress, and
goes on to the next step when it is not: sheet, frame, page, lane, STOPPED. The page step closes an open page with cause
STOP; the lane step hands a blank row for every row of every board, platform and strip panel and a blank clock record for
every clock panel, in an order that this statement leaves open (the model's, logs 43 and 44). The sequence goes on inside the
commands that end a sheet, a page close and a transmission. -/
def Obligations.StoppingGoesStepByStep : Prop :=
  ∀ s : State, s.xp.run = .stopping →
    (∀ r, awaited .doneWrite r s →
      exec .doneWriteComplete s = .next (releaseLink (advanceStop (doneWritten (landWrite r s))))) ∧
    (∀ r, awaited .closedWrite r s →
      exec .closedWriteComplete s = .next (releaseLink (advanceStop (pageClosed (landWrite r s))))) ∧
    (∀ n, exec (.laneTransmissionComplete n) s = .next (advanceStop (progressFrame (transmissionDone n s)))) ∧
    (s.xp.stopStage = some .sheet →
      (s.xp.sheet ≠ none → advanceStop s = s) ∧
      (s.xp.sheet = none → advanceStop s = advanceStop { s with xp := { s.xp with stopStage := some .frame } })) ∧
    (s.xp.stopStage = some .frame →
      (s.wc.frame ≠ none → advanceStop s = s) ∧
      (s.wc.frame = none →
        advanceStop s =
          advanceStop
            { s with
              xp := { s.xp with stopStage := some .page }
              cq :=
                { s.cq with attempt := if s.cq.attempt = some .reading then some .reading else none } })) ∧
    (s.xp.stopStage = some .page →
      (s.cq.attempt ≠ none ∨ s.cq.writing ≠ none → advanceStop s = s) ∧
      (∀ p, s.cq.attempt = none → s.cq.writing = none → s.cq.openPage = some p →
        (p.phase ≠ .filling → advanceStop s = s) ∧
        (p.phase = .filling →
          ∃ q, (advanceStop s).cq.openPage = some q ∧ q.causes = { p.causes with stop := true } ∧
            q.phase = .closing s.cq.dropped s.cq.superseded ∧ q.count = p.count ∧ (advanceStop s).cq.dropped = 0 ∧
            (advanceStop s).cq.superseded = 0 ∧ (advanceStop s).xp.stopStage = some .page ∧
            requested
              ⟨.pageHeaderWrite, linkAddr (s.xp.xbase.toNat * 65536 + 0x6000 + 4096 * p.page + 4), 60,
                headerBytes q s.cq.dropped s.cq.superseded⟩ (advanceStop s))) ∧
      (s.cq.attempt = none → s.cq.writing = none → s.cq.openPage = none →
        ∃ m, advanceStop s = advanceStop m ∧ m.xp = { s.xp with stopStage := some .lane } ∧
          m = { s with xp := m.xp, wc := m.wc, fu := m.fu } ∧
          ∀ (i : Nat) (p : Panel), s.wc.panels[i]? = some p → p.lane < s.fu.lanes.length →
            ∃ l, m.fu.lanes[p.lane]? = some l ∧
              (∀ k, k < p.kind.rows →
                (⟨i, p.addr, k + 1, blankRow⟩ : LineRec) ∈ l.frameQueue ++ l.waiting ∨
                  l.sending = some (.line ⟨i, p.addr, k + 1, blankRow⟩)) ∧
              (∀ b, p.kind = .clock b →
                ∃ h, (⟨p.addr, [], h⟩ : ClockRec) ∈ l.clockQueue ∨ l.sending = some (.clock ⟨p.addr, [], h⟩)))) ∧
    (s.xp.stopStage = some .lane →
      ((∃ l ∈ s.fu.lanes, l.waiting ≠ []) → advanceStop s = s) ∧
      ((∀ l ∈ s.fu.lanes, l.waiting = []) →
        (advanceStop s).xp.run = .stopped ∧ (advanceStop s).xp.stopStage = none ∧
        (advanceStop s).xp.attn = s.xp.attn ||| 64#7 ∧
        (∀ p ∈ (advanceStop s).pu.platforms, p.contact = .unknown ∧ p.pending = none ∧ p.history = []) ∧
        (s.xp.xbase ≠ 0 → (advanceStop s).xp.publication ≠ none) ∧
        advanceStop s = { s with xp := (advanceStop s).xp, pu := (advanceStop s).pu }))

/-- A name entry read returns (R111, R112, R123, R124, R125, R157, R193, R194), in every run state. A VALID entry that is
not used once enters the cache as its most recently used, the least recently used of 96 leaving; an EMPTY one does not,
and is a blank name. The copy goes to the frame and to the cue that await it: a frame that then awaits no name emits, and
a cue that awaits none has its record written. The next waiting miss is read, one of the Wall Composer's before those of
the Cue Sequencer (of several of its own the first of the list, log 38). -/
def Obligations.NameReadFillsTheCache : Prop :=
  ∀ (s : State) (r : MemReq) (f : Fetch) (copy : NameText), awaited .nameRead r s → s.wc.fetch = some f →
    copy = (decodeName (readData r s)).getD ⟨[], [], []⟩ →
    ∃ m t, exec .nameReadComplete s = .next t ∧ t = releaseLink (advanceStop (progressWrite (progressFrame m))) ∧
      t.ru = s.ru ∧ t.sc = s.sc ∧ t.mem = s.mem ∧
      m = { s with xp := m.xp, wc := m.wc, fu := m.fu, cq := { s.cq with writing := m.cq.writing } } ∧
      (fieldAt (readData r s) 24 1 = 0 ↔ decodeName (readData r s) = none) ∧
      (decodeName (readData r s) ≠ none → f.once = false → cacheFind f.miss.idx s.wc.cache = none →
        m.wc.cache = (if 96 ≤ s.wc.cache.length then s.wc.cache.drop 1 else s.wc.cache) ++ [⟨f.miss.idx, copy⟩]) ∧
      (decodeName (readData r s) ≠ none → f.once = false → cacheFind f.miss.idx m.wc.cache = some copy) ∧
      (decodeName (readData r s) = none ∨ f.once = true → m.wc.cache = s.wc.cache) ∧
      (s.wc.misses = [] → m.wc.fetch = none ∧ m.wc.misses = []) ∧
      (∀ x, s.wc.misses.find? (·.composer) = some x ∨
          (s.wc.misses.find? (·.composer) = none ∧ s.wc.misses.head? = some x) →
        m.wc.fetch = some ⟨x, false⟩ ∧ m.wc.misses = s.wc.misses.erase x ∧
        requested ⟨.nameRead, linkAddr (s.wc.nameOrigin + 64 * x.idx), 64, []⟩ m) ∧
      m.cq.writing =
        s.cq.writing.map (fun w =>
          if f.miss.sequencer = true ∧ f.miss.idx ∈ w.awaiting then
            { w with
              copies := w.copies ++ [(f.miss.idx, copy)], awaiting := w.awaiting.filter (· ≠ f.miss.idx) }
          else w) ∧
      (s.wc.frame = none → m.wc.frame = none ∧ m.fu = s.fu ∧ m.wc.panels = s.wc.panels ∧ progressFrame m = m) ∧
      (∀ g, s.wc.frame = some g →
        ∃ h, h =
            (if f.miss.composer = true ∧ f.miss.idx ∈ g.awaiting then
              { g with
                copies := g.copies ++ [(f.miss.idx, copy)], awaiting := g.awaiting.filter (· ≠ f.miss.idx) }
             else g) ∧
          (g.emitting = true ∨ h.awaiting ≠ [] →
            m.wc.frame = some h ∧ m.fu = s.fu ∧ m.wc.panels = s.wc.panels) ∧
          (g.emitting = false → h.awaiting = [] →
            m.wc.frame = some { h with emitting := true } ∧ Emits { h with emitting := true } s m)) ∧
      (s.wc.frame = none → s.xp.run ≠ .stopping →
        t.fu = s.fu ∧ t.wc = m.wc ∧
        ∀ w p, m.cq.writing = some w → s.cq.openPage = some p → w.awaiting = [] → w.requested = false →
          p.phase = .filling →
          requested
            ⟨.recordWrite, linkAddr (s.xp.xbase.toNat * 65536 + 0x6000 + 4096 * p.page + 64 + 160 * w.record),
              (recordBytes s.cq w.copies w.cue).length, recordBytes s.cq w.copies w.cue⟩ t)

/-! ### Contacts, lines, sensors, brightness -/

/-- A sample of a CONTACT line (R54, R131, R133): the level on it, or high with the pull-up set while nothing drives it. The
level held takes a new one; in RUNNING it starts, discards or replaces the pending change of the platform that names the
line, and in FAULT or outside RUNNING it does not. A sample of the level held changes nothing. -/
def Obligations.ContactLevelsArePending : Prop :=
  ∀ (s : State) (line : Nat) (l : FieldLine) (pull level driven : Bool), s.fu.lines[line]? = some l →
    l.fn = .contact pull → (∀ p, platformOfLine s line = some p → p ≤ s.pu.platforms.length) →
    ((level || (pull && !driven)) = l.level → exec (.contactLevelChange line ⟨level, driven⟩) s = .next s) ∧
    ((level || (pull && !driven)) = !l.level →
      ∃ t, exec (.contactLevelChange line ⟨level, driven⟩) s = .next t ∧ t = { s with fu := t.fu, pu := t.pu } ∧
        t.fu = { s.fu with lines := s.fu.lines.set line { l with level := !l.level } } ∧
        (platformOfLine s line = none ∨ s.xp.run ≠ .running → t.pu = s.pu) ∧
        ∀ p, platformOfLine s line = some p → s.xp.run = .running →
          t.pu.platforms = s.pu.platforms.set (p - 1) (platformRec t p) ∧
          platformRec t p = { platformRec s p with pending := (platformRec t p).pending } ∧
          ((platformRec s p).contact = .fault → (platformRec t p).pending = (platformRec s p).pending) ∧
          ((platformRec s p).contact = .unknown →
            (platformRec t p).pending = some ⟨xor (!l.level) (platformRec s p).presentWhenLow, s.sc.u⟩) ∧
          ((platformRec s p).contact = .present ∨ (platformRec s p).contact = .absent →
            ((platformRec s p).pending ≠ none → (platformRec t p).pending = none) ∧
            ((platformRec s p).pending = none →
              (platformRec t p).pending = some ⟨xor (!l.level) (platformRec s p).presentWhenLow, s.sc.u⟩)))

/-- A pending change that has lasted the filter time (R55 to R57, R59): the end of a baseline, an accepted change, or
chatter. -/
def Obligations.PendingChangesExpire : Prop :=
  ∀ (s : State) (p : Nat) (c : Pending), s.xp.run = .running → 1 ≤ p → p ≤ s.pu.platformCount →
    p ≤ s.pu.platforms.length → (platformRec s p).pending = some c → c.since + (platformRec s p).filter ≤ s.sc.u →
    ∃ t, exec (.pendingChangeExpiry p) s = .next t ∧ t.sc = s.sc ∧ t.mem = s.mem ∧
      ((platformRec s p).contact = .unknown → t.ru = s.ru ∧ t.cq.nextSeq = (s.cq.nextSeq + 1) % 2 ^ 32 ∧
        platformRec t p = { platformRec s p with contact := contactOf c.present, pending := none }) ∧
      ((platformRec s p).contact = .present ∨ (platformRec s p).contact = .absent →
        (isChatter (platformRec s p) s.sc.u = true →
          t.ru = s.ru ∧ t.xp.attn.getLsbD 3 = true ∧
          platformRec t p = { platformRec s p with contact := .fault, pending := none, history := [] }) ∧
        (isChatter (platformRec s p) s.sc.u = false →
          (c.present = true → t.ru = s.ru) ∧
          platformRec t p =
            { platformRec s p with
              contact := contactOf c.present, pending := none
              history := appendChange s.sc.u (platformRec s p).history })) ∧
      ((platformRec s p).contact = .fault → t = s)

/-- A ramp step (R139, R140): at a running tick in RUNNING each configured channel's duty moves toward its target by at
most 20 permille; outside RUNNING no duty moves. -/
def Obligations.DutiesRampAtRunningTicks : Prop :=
  ∀ (s : State) (k : Nat) (d : Dim), s.sc.u % 1000 = 0 → s.sc.u ≠ 0 → s.fu.dims[k]? = some d →
    ∃ t, exec .runningTick s = .next t ∧
      (s.xp.run ≠ .running → t = s) ∧
      (s.xp.run = .running → dimConfigured s.fu.lines k = false → t.fu.dims[k]? = some d) ∧
      (s.xp.run = .running → dimConfigured s.fu.lines k = true →
        ∃ e, t.fu.dims[k]? = some e ∧ e = { d with duty := e.duty } ∧
          (d.duty < dimTarget s d.par → e.duty = min (d.duty + 20) (dimTarget s d.par)) ∧
          (dimTarget s d.par < d.duty → e.duty = max (d.duty - 20) (dimTarget s d.par)) ∧
          (d.duty = dimTarget s d.par → e.duty = d.duty))

/-- The waveform of a period of 1 ms (R137), in units of 100 ns (x permille of the period are 10 x units), from the duty
and the dead time at its start. A duty that changes, at a running tick or a STOP, leaves the period as it is. Outside
RUNNING the duty-0 levels are driven, where every duty is 0 (R136). -/
def Obligations.DimPeriodDrivesThePair : Prop :=
  ∀ s : State,
    (∃ t, exec .dimPeriodStart s = .next t ∧ t = { s with fu := { s.fu with dims := t.fu.dims } } ∧
      t.fu.dims.length = s.fu.dims.length ∧
      ∀ (k : Nat) (d : Dim), s.fu.dims[k]? = some d →
        (dimConfigured s.fu.lines k = false → t.fu.dims[k]? = some d) ∧
        (dimConfigured s.fu.lines k = true →
          ∃ w, t.fu.dims[k]? = some { d with drive := some w } ∧
            (d.duty = 0 → w = ⟨none, some (0, 10000)⟩) ∧
            (DutyInv s → s.xp.run ≠ .running → w = ⟨none, some (0, 10000)⟩) ∧
            (d.duty = 1000 → w = ⟨some (0, 10000), none⟩) ∧
            (0 < d.duty → d.duty < 1000 →
              w.trueHigh = (if 10 * d.duty ≤ d.par.dead then none else some (d.par.dead, 10 * d.duty)) ∧
              w.compHigh =
                (if 10000 ≤ 10 * d.duty + d.par.dead then none else some (10 * d.duty + d.par.dead, 10000))))) ∧
    ∀ (c : Instr) (t : State), c = .runningTick ∨ c = .stop → exec c s = .next t →
      t.fu.dims.map (·.drive) = s.fu.dims.map (·.drive)

/-- A sample of the sensors (R138), whose readings are operands (the model's choice, log 10), and the end of a strobe
pulse (R135). -/
def Obligations.SensorsSampleAndStrobesEnd : Prop :=
  ∀ (s : State) (r0 r1 r2 r3 : BitVec 10) (line : Nat),
    (s.sc.u % 100 = 0 → s.sc.u ≠ 0 →
      ∃ t, exec (.sensorSample r0 r1 r2 r3) s = .next t ∧
        t = { s with fu := { s.fu with sensors := t.fu.sensors } } ∧
        ∀ (k : Nat) (h : List Nat), s.fu.sensors[k]? = some h → k < 4 →
          (lineFn s.fu.lines (40 + k) ≠ .analog → t.fu.sensors[k]? = some h) ∧
          (lineFn s.fu.lines (40 + k) = .analog →
            t.fu.sensors[k]? =
              some ((if 8 ≤ h.length then h.drop 1 else h) ++ [([r0, r1, r2, r3].map BitVec.toNat).getD k 0]))) ∧
    (∃ t, exec (.strobePulseEnd line) s = .next t ∧ t = { s with fu := { s.fu with lines := t.fu.lines } } ∧
      ∀ (i : Nat) (l : FieldLine), s.fu.lines[i]? = some l →
        t.fu.lines[i]? =
          some (if i = line ∧ ∃ e, l.pulseEnd = some e ∧ e ≤ s.sc.u then { l with pulseEnd := none } else l))

/-! ### Cues -/

/-- Requests from which no cue is created (R143, R147): a call request about a quiet departure and a NOTICE request about a
notice scoped to one change nothing, nor does one about a departure or a notice that is not held (the model's choice,
log 41), while a report about a quiet departure is created; a REINSTATED request that finds a pending
CANCELLATION removes it; a removal request removes the pending call cues of the departures named and no report. -/
def Obligations.RequestsWithoutACue : Prop :=
  ∀ (s : State) (r : CueReq) (id : Nat) (ids : List Nat),
    (r = .boarding id ∨ r = .closing id ∨ r = .delay id ∨ r = .cancellation id ∨ r = .reinstated id ∨
        (∃ a b, r = .platformChange id a b) →
      (∀ d, findDep s id = some d → d.quiet = true) → exec (.cueRequest r) s = .next s) ∧
    (∀ nid, (∀ n, findNotice s nid = some n → ∃ k d, n.scope = .departure k ∧ findDep s k = some d ∧ d.quiet = true) →
      exec (.cueRequest (.notice nid)) s = .next s) ∧
    (∀ d, findDep s id = some d →
      ∃ t, exec (.cueRequest (.departed id)) s = .next t ∧ t = { s with cq := t.cq, xp := t.xp } ∧
        t.cq.nextSeq = (s.cq.nextSeq + 1) % 2 ^ 32) ∧
    (∀ d, findDep s id = some d → d.quiet = false →
      (∃ c ∈ s.cq.queue, c.kind = .cancellation ∧ isCallOf [id] c = true) →
      exec (.cueRequest (.reinstated id)) s =
        .next
          { s with
            cq :=
              { s.cq with
                queue := s.cq.queue.filter fun c => !(decide (c.kind = .cancellation) && isCallOf [id] c)
                superseded :=
                  (s.cq.superseded
                    + (s.cq.queue.filter fun c => decide (c.kind = .cancellation) && isCallOf [id] c).length) % 2 ^ 32 } }) ∧
    ∃ t, exec (.removalRequest ids) s = .next t ∧
      t =
        { s with
          cq :=
            { s.cq with
              queue := s.cq.queue.filter fun c => !isCallOf ids c
              superseded := (s.cq.superseded + (s.cq.queue.filter (isCallOf ids)).length) % 2 ^ 32 } } ∧
      ∀ c ∈ s.cq.queue, c.kind.isReport = true → c ∈ t.cq.queue

/-- A cue request that creates a cue (R144 to R146, R149, R150): it takes the next creation sequence and the ticket of the
next frame; the pending cues it supersedes are removed and counted; with room in the queue it stands after every pending
cue of the same or a more urgent priority and before every other. With none, it is dropped when the least urgent pending
cue is as urgent, and otherwise the newest cue of the least urgent priority is, in whose stead it is placed; the drop is
counted. A CLOCK report raises CLOCK_EVENT (R50, R175). -/
def Obligations.CueRequestCreatesOneCue : Prop :=
  ∀ (s : State) (r : CueReq) (c : Cue), cueOf s r = some c → s.cq.queue.any (removesOnly s r) = false →
    s.cq.queue.length ≤ 32 →
    ∃ t, exec (.cueRequest r) s = .next t ∧ t = { s with cq := t.cq, xp := t.xp } ∧
      c.seq = s.cq.nextSeq ∧ c.ticket = (s.wc.framesStarted + 1) % 2 ^ 32 ∧
      t.cq.nextSeq = (s.cq.nextSeq + 1) % 2 ^ 32 ∧
      t.cq.superseded = (s.cq.superseded + (s.cq.queue.filter (supersedes c)).length) % 2 ^ 32 ∧
      t.cq.queue.length ≤ 32 ∧
      ((s.cq.queue.filter fun x => !supersedes c x).length < 32 →
        t.cq.dropped = s.cq.dropped ∧ c ∈ t.cq.queue ∧
        (∀ x, x ∈ t.cq.queue ↔ x = c ∨ (x ∈ s.cq.queue ∧ supersedes c x = false)) ∧
        (s.cq.queue.Pairwise (fun a b => a.priority ≤ b.priority) →
          ∃ l k, (s.cq.queue.filter fun x => !supersedes c x) = l ++ k ∧ t.cq.queue = l ++ c :: k ∧
            (∀ x ∈ l, x.priority ≤ c.priority) ∧ ∀ x ∈ k, c.priority < x.priority)) ∧
      (32 ≤ (s.cq.queue.filter fun x => !supersedes c x).length →
        t.cq.dropped = (s.cq.dropped + 1) % 2 ^ 32 ∧ t.cq.queue.length = 32 ∧
        ∃ last, s.cq.queue.getLast? = some last ∧
          (last.priority ≤ c.priority → t.cq.queue = s.cq.queue) ∧
          (c.priority < last.priority → s.cq.queue.Pairwise (fun a b => a.priority ≤ b.priority) →
            ∃ l k, s.cq.queue.dropLast = l ++ k ∧ t.cq.queue = l ++ c :: k ∧
              (∀ x ∈ l, x.priority ≤ c.priority) ∧ ∀ x ∈ k, c.priority < x.priority)) ∧
      t.xp.attn = (if c.kind = .clock then s.xp.attn ||| 4#7 else s.xp.attn)

/-! ### Cue pages, tallies, the status page -/

/-- The state word of the page at the cursor returns (R160): a FREE page opens with the first eligible cue and its OPEN
write is requested; a page that is not FREE sets a retry time; with no eligible cue nothing opens. -/
def Obligations.StateWordOpensAPage : Prop :=
  ∀ (s : State) (r : MemReq), awaited .stateWordRead r s → s.xp.run = .running →
    ∃ t, exec .stateWordReadComplete s = .next t ∧ t = { s with xp := t.xp, wc := t.wc, cq := t.cq } ∧
      (leNat (readData r s) ≠ 0 →
        t.cq = { s.cq with attempt := some (.retry (s.sc.u + 250)) } ∧ t.wc = s.wc) ∧
      (leNat (readData r s) = 0 → s.cq.queue.any (·.eligible) = false →
        t.cq = { s.cq with attempt := none } ∧ t.wc = s.wc) ∧
      (leNat (readData r s) = 0 → ∀ c, s.cq.queue.find? (·.eligible) = some c →
        t.cq.openPage = some ⟨s.cq.cursor, s.cq.nextPageSeq, 1, none, ⟨false, false, false, false⟩, .opening⟩ ∧
        t.cq.nextPageSeq = (s.cq.nextPageSeq + 1) % 2 ^ 32 ∧ t.cq.queue = s.cq.queue.erase c ∧
        t.cq.attempt = none ∧
        requested
          ⟨.openWrite, linkAddr (s.xp.xbase.toNat * 65536 + 0x6000 + 4096 * s.cq.cursor), 4, leBytes 4 1⟩ t)

/-- The retry time and the hold time (R160, R162): at the retry time a try is made when its conditions hold; at the hold
time the page closes with cause HOLD, after a write in progress. -/
def Obligations.RetryAndHoldTimes : Prop :=
  ∀ s : State,
    (∀ a, s.cq.attempt = some (.retry a) → a ≤ s.sc.u →
      ∃ t, exec .pageRetry s = .next t ∧ t = { s with xp := t.xp, cq := t.cq } ∧
        (mayTryOpen { s with cq := { s.cq with attempt := none } } = false →
          t = { s with cq := { s.cq with attempt := none } }) ∧
        (mayTryOpen { s with cq := { s.cq with attempt := none } } = true →
          t.cq = { s.cq with attempt := some .reading } ∧
          requested
            ⟨.stateWordRead, linkAddr (s.xp.xbase.toNat * 65536 + 0x6000 + 4096 * s.cq.cursor), 4, []⟩ t)) ∧
    (∀ p first, s.cq.openPage = some p → p.phase = .filling → p.firstCue = some first →
      first + s.cq.holdTime ≤ s.sc.u →
      ∃ t q, exec .holdExpiry s = .next t ∧ t = { s with xp := t.xp, cq := t.cq } ∧ t.cq.openPage = some q ∧
        q.causes = { p.causes with hold := true } ∧ q.count = p.count ∧
        (s.cq.writing ≠ none → t.xp = s.xp ∧ q.phase = .filling ∧ t.cq.dropped = s.cq.dropped) ∧
        (s.cq.writing = none →
          q.phase = .closing s.cq.dropped s.cq.superseded ∧ t.cq.dropped = 0 ∧ t.cq.superseded = 0 ∧
          requested
            ⟨.pageHeaderWrite, linkAddr (s.xp.xbase.toNat * 65536 + 0x6000 + 4096 * p.page + 4), 60,
              headerBytes q s.cq.dropped s.cq.superseded⟩ t))

/-- A cue record has been written (R161 to R163, R166, R167): its bytes stand in the page, the cue is added to the tally
list or counted as a tally exception, the first-cue time is set, and the page closes for the causes FULL, URGENT and HOLD
that now hold, its counts going into the header; with none, the writer takes the next eligible cue. -/
def Obligations.RecordWriteMayCloseThePage : Prop :=
  ∀ (s : State) (r : MemReq) (w : CueWrite) (p : OpenPage), awaited .recordWrite r s → s.xp.run = .running →
    s.cq.writing = some w → s.cq.openPage = some p →
    ∃ t q, exec .cueRecordWriteComplete s = .next t ∧ t.mem = Memory.writeBytes s.mem r.addr r.data ∧
      t = { s with xp := t.xp, wc := t.wc, cq := t.cq, mem := t.mem } ∧ t.cq.openPage = some q ∧
      (s.cq.tallyOrigin = 0 →
        t.cq.tallyList = s.cq.tallyList ∧ t.cq.tallyExceptions = s.cq.tallyExceptions) ∧
      (s.cq.tallyOrigin ≠ 0 → s.cq.tallySize ≤ tallyCode w.cue ∨ 32 ≤ s.cq.tallyList.length →
        t.cq.tallyList = s.cq.tallyList ∧ t.cq.tallyExceptions = (s.cq.tallyExceptions + 1) % 2 ^ 32) ∧
      (s.cq.tallyOrigin ≠ 0 → tallyCode w.cue < s.cq.tallySize → s.cq.tallyList.length < 32 →
        t.cq.tallyList =
            s.cq.tallyList ++
              [⟨tallyCode w.cue, linkAddr (s.cq.tallyOrigin + 2 * tallyCode w.cue),
                linkAddr (s.cq.tallyOrigin + 2 * s.cq.tallySize + 4 * tallyCode w.cue)⟩] ∧
          t.cq.tallyExceptions = s.cq.tallyExceptions) ∧
      q.firstCue = some (p.firstCue.getD s.sc.u) ∧ q.page = p.page ∧ q.seq = p.seq ∧
      (16 ≤ p.count ∨ w.cue.priority = 0 ∨ p.causes.hold = true ∨ p.firstCue.getD s.sc.u + s.cq.holdTime ≤ s.sc.u →
        q.phase = .closing s.cq.dropped s.cq.superseded ∧ q.count = p.count ∧ t.cq.writing = none ∧
        t.cq.queue = s.cq.queue ∧ t.cq.dropped = 0 ∧ t.cq.superseded = 0 ∧
        q.causes.full = decide (16 ≤ p.count) ∧ q.causes.urgent = decide (w.cue.priority = 0) ∧
        q.causes.hold = (p.causes.hold || decide (p.firstCue.getD s.sc.u + s.cq.holdTime ≤ s.sc.u)) ∧
        q.causes.stop = false) ∧
      (p.count < 16 → w.cue.priority ≠ 0 → p.causes.hold = false →
        s.sc.u < p.firstCue.getD s.sc.u + s.cq.holdTime →
        q.phase = p.phase ∧ t.cq.dropped = s.cq.dropped ∧ t.cq.superseded = s.cq.superseded ∧
        (∀ c, p.phase = .filling → s.cq.queue.find? (·.eligible) = some c →
          q.count = p.count + 1 ∧ t.cq.queue = s.cq.queue.erase c ∧
          ∃ w', t.cq.writing = some w' ∧ w'.cue = c ∧ w'.record = p.count) ∧
        (p.phase ≠ .filling ∨ s.cq.queue.find? (·.eligible) = none →
          q.count = p.count ∧ t.cq.queue = s.cq.queue ∧ t.cq.writing = none))

/-- The writes that open and close a page (R158, R160, R163): after OPEN the page takes its cue's record; after the header
CLOSED is written; after CLOSED, CUE_PAGE is raised, every strobe pulses and the cursor advances from 7 to 0. -/
def Obligations.PageOpensAndCloses : Prop :=
  ∀ (s : State) (r : MemReq) (p : OpenPage), s.cq.openPage = some p → s.xp.run = .running →
    (awaited .openWrite r s → p.phase = .opening →
      ∃ t, exec .openWriteComplete s = .next t ∧ t.mem = Memory.writeBytes s.mem r.addr r.data ∧
        t = { s with xp := t.xp, cq := t.cq, mem := t.mem } ∧
        t.cq.openPage = some { p with phase := .filling } ∧
        ∀ w, s.cq.writing = some w → w.awaiting = [] → w.requested = false →
          requested
            ⟨.recordWrite, linkAddr (s.xp.xbase.toNat * 65536 + 0x6000 + 4096 * p.page + 64 + 160 * w.record),
              (recordBytes s.cq w.copies w.cue).length, recordBytes s.cq w.copies w.cue⟩ t) ∧
    (awaited .pageHeaderWrite r s →
      ∃ t, exec .pageHeaderWriteComplete s = .next t ∧ t.mem = Memory.writeBytes s.mem r.addr r.data ∧
        t = { s with xp := t.xp, mem := t.mem } ∧
        requested ⟨.closedWrite, linkAddr (s.xp.xbase.toNat * 65536 + 0x6000 + 4096 * p.page), 4, leBytes 4 2⟩ t) ∧
    (awaited .closedWrite r s →
      ∃ t, exec .closedWriteComplete s = .next t ∧ t.mem = Memory.writeBytes s.mem r.addr r.data ∧
        t = { s with xp := t.xp, cq := t.cq, fu := t.fu, mem := t.mem } ∧ t.xp.attn = s.xp.attn ||| 2#7 ∧
        t.cq.openPage = none ∧ t.cq.cursor = (s.cq.cursor + 1) % 8 ∧ t.cq.queue = s.cq.queue ∧
        ∀ (i : Nat) (l : FieldLine), s.fu.lines[i]? = some l →
          (∀ low width, l.fn = .strobe low width →
            t.fu.lines[i]? = some { l with pulseEnd := some (s.sc.u + width) }) ∧
          ((∀ low width, l.fn ≠ .strobe low width) → t.fu.lines[i]? = some l))

/-- One tally update (R168): the halfword read, its write as h + 1, and when it wraps the word read first and written
last as w + 1; at the last write the entry leaves the list. The updates run on in every run state (R167). -/
def Obligations.TallyUpdateCountsOne : Prop :=
  ∀ (s : State) (r : MemReq) (e : TallyEntry) (rest : List TallyEntry), s.cq.tallyList = e :: rest →
    (awaited .tallyHalfRead r s → s.cq.tallyStep = some .readHalf →
      ∃ t, exec .tallyHalfwordReadComplete s = .next t ∧ t.mem = s.mem ∧ t.ru = s.ru ∧ t.sc = s.sc ∧
        t.cq.tallyList = e :: rest ∧
        (s.xp.run ≠ .stopping → t = { s with xp := t.xp, cq := { s.cq with tallyStep := t.cq.tallyStep } }) ∧
        (leNat (readData r s) ≠ 65535 →
          t.cq.tallyStep = some (.writeHalf none) ∧
          requested ⟨.tallyHalfWrite, linkAddr e.halfAddr, 2, leBytes 2 (leNat (readData r s) + 1)⟩ t) ∧
        (leNat (readData r s) = 65535 →
          t.cq.tallyStep = some .readWord ∧ requested ⟨.tallyWordRead, linkAddr e.wordAddr, 4, []⟩ t)) ∧
    (awaited .tallyWordRead r s → s.cq.tallyStep = some .readWord →
      ∃ t, exec .tallyWordReadComplete s = .next t ∧ t.mem = s.mem ∧ t.ru = s.ru ∧ t.sc = s.sc ∧
        t.cq.tallyList = e :: rest ∧
        (s.xp.run ≠ .stopping → t = { s with xp := t.xp, cq := { s.cq with tallyStep := t.cq.tallyStep } }) ∧
        t.cq.tallyStep = some (.writeHalf (some (leNat (readData r s)))) ∧
        requested ⟨.tallyHalfWrite, linkAddr e.halfAddr, 2, [0#8, 0#8]⟩ t) ∧
    (awaited .tallyHalfWrite r s →
      ∃ t, exec .tallyHalfwordWriteComplete s = .next t ∧ t.ru = s.ru ∧ t.sc = s.sc ∧
        t.mem = Memory.writeBytes s.mem r.addr r.data ∧
        (s.xp.run ≠ .stopping →
          t =
            { s with
              xp := t.xp, mem := t.mem
              cq := { s.cq with tallyStep := t.cq.tallyStep, tallyList := t.cq.tallyList } }) ∧
        (∀ w, s.cq.tallyStep = some (.writeHalf (some w)) →
          t.cq.tallyStep = some .writeWord ∧ t.cq.tallyList = e :: rest ∧
          requested ⟨.tallyWordWrite, linkAddr e.wordAddr, 4, leBytes 4 ((w + 1) % 2 ^ 32)⟩ t) ∧
        (s.cq.tallyStep = some (.writeHalf none) → t.cq.tallyList = rest)) ∧
    (awaited .tallyWordWrite r s → s.cq.tallyStep = some .writeWord →
      ∃ t, exec .tallyWordWriteComplete s = .next t ∧ t.ru = s.ru ∧ t.sc = s.sc ∧
        t.mem = Memory.writeBytes s.mem r.addr r.data ∧ t.cq.tallyList = rest ∧
        (s.xp.run ≠ .stopping →
          t =
            { s with
              xp := t.xp, mem := t.mem
              cq := { s.cq with tallyStep := t.cq.tallyStep, tallyList := t.cq.tallyList } }))

/-- A publication (R178): after the odd count its copied fields are written, as one request (the model's choice, log 39),
after them the even count, after which it ends; a wanted one then begins. The publish count wraps at 32 bits (the model's
choice, log 26). In STOPPING the sequence of R184 goes on after it. -/
def Obligations.PublicationWritesOddThenEven : Prop :=
  ∀ (s : State) (r : MemReq) (p : Publication), s.xp.publication = some p →
    (awaited .publishCountWrite r s → p.phase = .odd →
      ∃ t, exec .publishCountWriteComplete s = .next t ∧ t.mem = Memory.writeBytes s.mem r.addr r.data ∧
        t.ru = s.ru ∧ t.sc = s.sc ∧ (s.xp.run ≠ .stopping → t = { s with xp := t.xp, mem := t.mem }) ∧
        t.xp.publishCount = s.xp.publishCount ∧ t.xp.publication = some { p with phase := .content } ∧
        requested ⟨.publishContentWrite, linkAddr (p.base + 0xE000 + 4), p.content.length, p.content⟩ t) ∧
    (awaited .publishContentWrite r s → p.phase = .content →
      ∃ t, exec .publishContentWriteComplete s = .next t ∧ t.mem = Memory.writeBytes s.mem r.addr r.data ∧
        t.ru = s.ru ∧ t.sc = s.sc ∧ (s.xp.run ≠ .stopping → t = { s with xp := t.xp, mem := t.mem }) ∧
        t.xp.publishCount = (s.xp.publishCount + 1) % 2 ^ 32 ∧
        t.xp.publication = some { p with phase := .even } ∧
        requested
          ⟨.publishCountWrite, linkAddr (p.base + 0xE000), 4, leBytes 4 ((s.xp.publishCount + 1) % 2 ^ 32)⟩ t) ∧
    (awaited .publishCountWrite r s → p.phase = .even →
      ∃ m t, exec .publishCountWriteComplete s = .next t ∧ t = releaseLink (advanceStop m) ∧
        (s.xp.run ≠ .stopping → advanceStop m = m) ∧ t.ru = s.ru ∧ t.sc = s.sc ∧
        t.mem = Memory.writeBytes s.mem r.addr r.data ∧ m = { s with xp := m.xp, mem := t.mem } ∧
        m.xp.publishWanted = false ∧
        (s.xp.publishWanted = false → m.xp = { s.xp with publication := none }) ∧
        (s.xp.publishWanted = true →
          m.xp.publication = some ⟨.odd, s.xp.xbase.toNat * 65536, statusContent s⟩ ∧
          m.xp.publishCount = (s.xp.publishCount + 1) % 2 ^ 32 ∧
          requested
            ⟨.publishCountWrite, linkAddr (s.xp.xbase.toNat * 65536 + 0xE000), 4,
              leBytes 4 ((s.xp.publishCount + 1) % 2 ^ 32)⟩ t))

/-- A memory fault (R177): MEMORY_FAULT, the area and the address are recorded, and the block that asked acts as its rule
says (R73, R74, R124, R160, R164, R168, R174, R178, R181); a read and a failed DONE write leave memory as it was, a failed
write of another state word leaves it so or with the whole word written (R164, R186), and any other write changes at most
its own bytes (log 6). A time-out does the same once 50 ms have passed, and the command does nothing before (the model's
choice, log 3). The dropped, superseded and publish counts wrap at 32 bits (the model's choice, log 26). -/
def Obligations.MemoryFaultsAreRecorded : Prop :=
  ∀ (s : State) (f : InFlight), s.xp.inFlight = some f →
    (∃ t, exec .memoryFault s = .next t ∧ t.xp.attn.getLsbD 5 = true ∧ t.xp.faultArea = some f.req.access.cls ∧
      t.xp.faultAddr = f.req.addr ∧ t.sc = s.sc ∧ t.ru = s.ru ∧
      (f.req.access.isWrite = false ∨ f.req.access = .doneWrite → t.mem = s.mem) ∧
      (f.req.access = .takenWrite ∨ f.req.access = .openWrite ∨ f.req.access = .closedWrite →
        t.mem = s.mem ∨ t.mem = Memory.writeBytes s.mem f.req.addr f.req.data) ∧
      (Memory.wf s.mem = true → ∀ a, (∀ i, i < f.req.data.length → a ≠ linkAddr (f.req.addr + i)) →
        Memory.read t.mem a = Memory.read s.mem a) ∧
      (∀ j, s.xp.sheet = some j →
        (f.req.access = .headerRead ∨ f.req.access = .takenWrite ∨ f.req.access = .unitRead → answered s t j 1 255) ∧
        (f.req.access = .resultWrite ∨ f.req.access = .doneWrite →
          (s.xp.run ≠ .stopping → t.xp.attn = s.xp.attn ||| 32#7) ∧
          (s.xp.postQueue = [] ∨ s.xp.run ≠ .running → t.xp.sheet = none) ∧
          ∀ n rest, s.xp.postQueue = n :: rest → s.xp.run = .running →
            t.xp.postQueue = rest ∧
            requested ⟨.headerRead, linkAddr (s.xp.xbase.toNat * 65536 + 0x2000 + 1024 * n), 32, []⟩ t)) ∧
      (f.req.access = .stateWordRead → s.xp.run ≠ .stopping →
        t.cq = { s.cq with attempt := some (.retry (s.sc.u + 250)) }) ∧
      (f.req.access.cls = .page → f.req.access ≠ .stateWordRead → ∀ p, s.cq.openPage = some p →
        t.cq.cursor = (s.cq.cursor + 1) % 8 ∧ t.cq.openPage = none ∧ t.cq.writing = none ∧
        (∀ d k, p.phase = .closing d k →
          t.cq.dropped = (s.cq.dropped + p.count + d) % 2 ^ 32 ∧ t.cq.superseded = (s.cq.superseded + k) % 2 ^ 32) ∧
        (p.phase = .opening ∨ p.phase = .filling → t.cq.dropped = (s.cq.dropped + p.count) % 2 ^ 32)) ∧
      (f.req.access.cls = .tally → t.cq.tallyExceptions = (s.cq.tallyExceptions + 1) % 2 ^ 32 ∧
        t.cq.tallyList = s.cq.tallyList.drop 1) ∧
      (f.req.access.cls = .name → s.wc.frame = none → ∀ g, s.wc.fetch = some g →
        s.wc.cache = t.wc.cache ∧ (s.wc.misses = [] → t.wc.fetch = none) ∧
        ∀ w, g.miss.sequencer = true → s.cq.writing = some w → g.miss.idx ∈ w.awaiting →
          ∃ w', t.cq.writing = some w' ∧ w'.copies = w.copies ++ [(g.miss.idx, ⟨[], [], []⟩)] ∧
            w'.awaiting = w.awaiting.filter (· ≠ g.miss.idx)) ∧
      (f.req.access.cls = .status → s.xp.run ≠ .stopping → ∀ p n, s.xp.publication = some p →
        n = (if p.phase = .even then s.xp.publishCount else (s.xp.publishCount + 1) % 2 ^ 32) →
        (s.xp.publishWanted = false → t.xp.publication = none ∧ t.xp.publishCount = n) ∧
        (s.xp.publishWanted = true → t.xp.publishWanted = false ∧ t.xp.publishCount = (n + 1) % 2 ^ 32 ∧
          ∃ q, t.xp.publication = some q ∧ q.phase = .odd ∧ q.base = s.xp.xbase.toNat * 65536)) ∧
      (f.req.access.cls = .layout → t.xp.run = .stopped ∧
        t.xp.faultCode = if s.xp.stopRequested then 9 else 2)) ∧
    (f.since + 50 ≤ s.sc.u → exec .memoryRequestTimeout s = exec .memoryFault s) ∧
    (s.sc.u < f.since + 50 → exec .memoryRequestTimeout s = .next s)

/-! ### Invariants -/

/-- Host memory keeps its canonical form. -/
def Obligations.MemoryKeepsItsForm : Prop :=
  ∀ s t : State, Memory.wf s.mem = true → step s = .next t → Memory.wf t.mem = true

/-- The clock's fields keep their ranges (R31, R33, R34, R37). -/
def Obligations.ClockKeepsItsRanges : Prop := ∀ s t : State, ClockInv s.sc → step s = .next t → ClockInv t.sc

/-- A layout read, at most one, is on the link or waits only while the run state is STARTING (R181); and with that, every
duty stays within 0..1000 and is 0 in every run state other than RUNNING (R136). -/
def Obligations.DutiesStayInRange : Prop :=
  ∀ s t : State, LayoutInv s.xp → step s = .next t → LayoutInv t.xp ∧ (DutyInv s → DutyInv t)

/-- The publish count is odd only during a publication (R178). -/
def Obligations.PublishCountKeepsParity : Prop := ∀ s t : State, PublishInv s.xp → step s = .next t → PublishInv t.xp

/-- The roster keeps its size, its unique ids and its order (R8, R9). -/
def Obligations.RosterKeepsItsOrder : Prop := ∀ s t : State, RosterInv s.ru → step s = .next t → RosterInv t.ru

/-- At every platform at most one departure is in BOARDING or CLOSING, and no departure stands at a closed platform or at
one out of service (R11, R68). -/
def Obligations.PlatformsHoldOneBoardingDeparture : Prop :=
  ∀ s t : State, RosterInv s.ru → PlatformInv s → step s = .next t → PlatformInv t

/-- Frames-completed is one below frames-started while a frame is in flight, and equal to it otherwise (R109). -/
def Obligations.FrameCountsStayTogether : Prop := ∀ s t : State, FrameInv s.wc → step s = .next t → FrameInv t.wc

/-- Every moved-from list keeps what R65 holds of it. -/
def Obligations.MovedFromListsStayShort : Prop :=
  ∀ s t : State, (∀ d ∈ s.ru.roster, MovedFromInv d) → step s = .next t → ∀ d ∈ t.ru.roster, MovedFromInv d

/-- The queues and buffers keep within their bounds, the clock queues of the lanes among them (R128), the cue queue its
order of priority, and the posting sequence its 40 bits (where it goes after its largest value is the model's choice, log
26); and a page never takes a seventeenth cue (R161). -/
def Obligations.QueuesStayBounded : Prop :=
  ∀ s t : State, step s = .next t → (QueueInv s → QueueInv t) ∧ (PageInv s.cq → PageInv t.cq)

/-- Every invariant holds at reset. -/
def Obligations.InvariantsHoldAtReset : Prop :=
  Memory.wf State.reset.mem = true ∧ ClockInv State.reset.sc ∧ DutyInv State.reset ∧ LayoutInv State.reset.xp ∧
    PublishInv State.reset.xp ∧ RosterInv State.reset.ru ∧ (∀ d ∈ State.reset.ru.roster, MovedFromInv d) ∧
    QueueInv State.reset ∧
    PageInv State.reset.cq ∧ PlatformInv State.reset ∧ FrameInv State.reset.wc
end

