-- ==== Sys2Proof/Laws/State.lean ====
section
/-! SUPPORT. One lemma for each field of the state and each update of one block, true by rfl; no later proof unfolds an
update. -/

namespace Sys2Proof.Machine

variable (s : State)

@[simp] theorem onXp_xp (f : XP → XP) : (s.onXp f).xp = f s.xp := rfl
@[simp] theorem onXp_ru (f : XP → XP) : (s.onXp f).ru = s.ru := rfl
@[simp] theorem onXp_pu (f : XP → XP) : (s.onXp f).pu = s.pu := rfl
@[simp] theorem onXp_sc (f : XP → XP) : (s.onXp f).sc = s.sc := rfl
@[simp] theorem onXp_wc (f : XP → XP) : (s.onXp f).wc = s.wc := rfl
@[simp] theorem onXp_fu (f : XP → XP) : (s.onXp f).fu = s.fu := rfl
@[simp] theorem onXp_cq (f : XP → XP) : (s.onXp f).cq = s.cq := rfl
@[simp] theorem onXp_mem (f : XP → XP) : (s.onXp f).mem = s.mem := rfl
@[simp] theorem onXp_pending (f : XP → XP) : (s.onXp f).pending = s.pending := rfl
@[simp] theorem onXp_freeCount (f : XP → XP) : (s.onXp f).freeCount = s.freeCount := rfl

@[simp] theorem onRu_xp (f : RU → RU) : (s.onRu f).xp = s.xp := rfl
@[simp] theorem onRu_ru (f : RU → RU) : (s.onRu f).ru = f s.ru := rfl
@[simp] theorem onRu_pu (f : RU → RU) : (s.onRu f).pu = s.pu := rfl
@[simp] theorem onRu_sc (f : RU → RU) : (s.onRu f).sc = s.sc := rfl
@[simp] theorem onRu_wc (f : RU → RU) : (s.onRu f).wc = s.wc := rfl
@[simp] theorem onRu_fu (f : RU → RU) : (s.onRu f).fu = s.fu := rfl
@[simp] theorem onRu_cq (f : RU → RU) : (s.onRu f).cq = s.cq := rfl
@[simp] theorem onRu_mem (f : RU → RU) : (s.onRu f).mem = s.mem := rfl
@[simp] theorem onRu_pending (f : RU → RU) : (s.onRu f).pending = s.pending := rfl
@[simp] theorem onRu_freeCount (f : RU → RU) : (s.onRu f).freeCount = s.freeCount := rfl

@[simp] theorem onPu_xp (f : PU → PU) : (s.onPu f).xp = s.xp := rfl
@[simp] theorem onPu_ru (f : PU → PU) : (s.onPu f).ru = s.ru := rfl
@[simp] theorem onPu_pu (f : PU → PU) : (s.onPu f).pu = f s.pu := rfl
@[simp] theorem onPu_sc (f : PU → PU) : (s.onPu f).sc = s.sc := rfl
@[simp] theorem onPu_wc (f : PU → PU) : (s.onPu f).wc = s.wc := rfl
@[simp] theorem onPu_fu (f : PU → PU) : (s.onPu f).fu = s.fu := rfl
@[simp] theorem onPu_cq (f : PU → PU) : (s.onPu f).cq = s.cq := rfl
@[simp] theorem onPu_mem (f : PU → PU) : (s.onPu f).mem = s.mem := rfl
@[simp] theorem onPu_pending (f : PU → PU) : (s.onPu f).pending = s.pending := rfl
@[simp] theorem onPu_freeCount (f : PU → PU) : (s.onPu f).freeCount = s.freeCount := rfl

@[simp] theorem onSc_xp (f : SC → SC) : (s.onSc f).xp = s.xp := rfl
@[simp] theorem onSc_ru (f : SC → SC) : (s.onSc f).ru = s.ru := rfl
@[simp] theorem onSc_pu (f : SC → SC) : (s.onSc f).pu = s.pu := rfl
@[simp] theorem onSc_sc (f : SC → SC) : (s.onSc f).sc = f s.sc := rfl
@[simp] theorem onSc_wc (f : SC → SC) : (s.onSc f).wc = s.wc := rfl
@[simp] theorem onSc_fu (f : SC → SC) : (s.onSc f).fu = s.fu := rfl
@[simp] theorem onSc_cq (f : SC → SC) : (s.onSc f).cq = s.cq := rfl
@[simp] theorem onSc_mem (f : SC → SC) : (s.onSc f).mem = s.mem := rfl
@[simp] theorem onSc_pending (f : SC → SC) : (s.onSc f).pending = s.pending := rfl
@[simp] theorem onSc_freeCount (f : SC → SC) : (s.onSc f).freeCount = s.freeCount := rfl

@[simp] theorem onWc_xp (f : WC → WC) : (s.onWc f).xp = s.xp := rfl
@[simp] theorem onWc_ru (f : WC → WC) : (s.onWc f).ru = s.ru := rfl
@[simp] theorem onWc_pu (f : WC → WC) : (s.onWc f).pu = s.pu := rfl
@[simp] theorem onWc_sc (f : WC → WC) : (s.onWc f).sc = s.sc := rfl
@[simp] theorem onWc_wc (f : WC → WC) : (s.onWc f).wc = f s.wc := rfl
@[simp] theorem onWc_fu (f : WC → WC) : (s.onWc f).fu = s.fu := rfl
@[simp] theorem onWc_cq (f : WC → WC) : (s.onWc f).cq = s.cq := rfl
@[simp] theorem onWc_mem (f : WC → WC) : (s.onWc f).mem = s.mem := rfl
@[simp] theorem onWc_pending (f : WC → WC) : (s.onWc f).pending = s.pending := rfl
@[simp] theorem onWc_freeCount (f : WC → WC) : (s.onWc f).freeCount = s.freeCount := rfl

@[simp] theorem onFu_xp (f : FU → FU) : (s.onFu f).xp = s.xp := rfl
@[simp] theorem onFu_ru (f : FU → FU) : (s.onFu f).ru = s.ru := rfl
@[simp] theorem onFu_pu (f : FU → FU) : (s.onFu f).pu = s.pu := rfl
@[simp] theorem onFu_sc (f : FU → FU) : (s.onFu f).sc = s.sc := rfl
@[simp] theorem onFu_wc (f : FU → FU) : (s.onFu f).wc = s.wc := rfl
@[simp] theorem onFu_fu (f : FU → FU) : (s.onFu f).fu = f s.fu := rfl
@[simp] theorem onFu_cq (f : FU → FU) : (s.onFu f).cq = s.cq := rfl
@[simp] theorem onFu_mem (f : FU → FU) : (s.onFu f).mem = s.mem := rfl
@[simp] theorem onFu_pending (f : FU → FU) : (s.onFu f).pending = s.pending := rfl
@[simp] theorem onFu_freeCount (f : FU → FU) : (s.onFu f).freeCount = s.freeCount := rfl

@[simp] theorem onCq_xp (f : CQ → CQ) : (s.onCq f).xp = s.xp := rfl
@[simp] theorem onCq_ru (f : CQ → CQ) : (s.onCq f).ru = s.ru := rfl
@[simp] theorem onCq_pu (f : CQ → CQ) : (s.onCq f).pu = s.pu := rfl
@[simp] theorem onCq_sc (f : CQ → CQ) : (s.onCq f).sc = s.sc := rfl
@[simp] theorem onCq_wc (f : CQ → CQ) : (s.onCq f).wc = s.wc := rfl
@[simp] theorem onCq_fu (f : CQ → CQ) : (s.onCq f).fu = s.fu := rfl
@[simp] theorem onCq_cq (f : CQ → CQ) : (s.onCq f).cq = f s.cq := rfl
@[simp] theorem onCq_mem (f : CQ → CQ) : (s.onCq f).mem = s.mem := rfl
@[simp] theorem onCq_pending (f : CQ → CQ) : (s.onCq f).pending = s.pending := rfl
@[simp] theorem onCq_freeCount (f : CQ → CQ) : (s.onCq f).freeCount = s.freeCount := rfl

@[simp] theorem onMem_xp (f : List Host.Cell → List Host.Cell) : (s.onMem f).xp = s.xp := rfl
@[simp] theorem onMem_ru (f : List Host.Cell → List Host.Cell) : (s.onMem f).ru = s.ru := rfl
@[simp] theorem onMem_pu (f : List Host.Cell → List Host.Cell) : (s.onMem f).pu = s.pu := rfl
@[simp] theorem onMem_sc (f : List Host.Cell → List Host.Cell) : (s.onMem f).sc = s.sc := rfl
@[simp] theorem onMem_wc (f : List Host.Cell → List Host.Cell) : (s.onMem f).wc = s.wc := rfl
@[simp] theorem onMem_fu (f : List Host.Cell → List Host.Cell) : (s.onMem f).fu = s.fu := rfl
@[simp] theorem onMem_cq (f : List Host.Cell → List Host.Cell) : (s.onMem f).cq = s.cq := rfl
@[simp] theorem onMem_mem (f : List Host.Cell → List Host.Cell) : (s.onMem f).mem = f s.mem := rfl
@[simp] theorem onMem_pending (f : List Host.Cell → List Host.Cell) : (s.onMem f).pending = s.pending := rfl
@[simp] theorem onMem_freeCount (f : List Host.Cell → List Host.Cell) : (s.onMem f).freeCount = s.freeCount := rfl

end Sys2Proof.Machine
end

