-- ==== Sys2Proof/Laws/Frame.lean ====
section
/-! SUPPORT. What each operation leaves alone: the link, the lanes, the names, the status page, the cues, the pages, the
tallies and the frames. -/

namespace Sys2Proof.Machine

/-- A fold whose steps leave a view of the state alone leaves it alone. -/
theorem foldl_view {α β : Type} (view : State → β) (f : State → α → State)
    (h : ∀ s a, view (f s a) = view s) (l : List α) : ∀ s, view (l.foldl f s) = view s := by
  induction l with
  | nil => intro s; rfl
  | cons a l ih => intro s; rw [List.foldl_cons, ih, h]

@[simp] theorem raiseAttn_frame (f : AttnFlag) (s : State) :
    (raiseAttn f s).ru = s.ru ∧ (raiseAttn f s).pu = s.pu ∧ (raiseAttn f s).sc = s.sc ∧
    (raiseAttn f s).wc = s.wc ∧ (raiseAttn f s).fu = s.fu ∧ (raiseAttn f s).cq = s.cq ∧
    (raiseAttn f s).mem = s.mem ∧ (raiseAttn f s).pending = s.pending ∧ (raiseAttn f s).freeCount = s.freeCount := by
  simp [raiseAttn]

@[simp] theorem enterRun_frame (r : RunState) (s : State) :
    (enterRun r s).ru = s.ru ∧ (enterRun r s).pu = s.pu ∧ (enterRun r s).sc = s.sc ∧ (enterRun r s).wc = s.wc ∧
    (enterRun r s).fu = s.fu ∧ (enterRun r s).cq = s.cq ∧ (enterRun r s).mem = s.mem ∧
    (enterRun r s).pending = s.pending ∧ (enterRun r s).freeCount = s.freeCount := by
  simp [enterRun]

@[simp] theorem request_frame (r : MemReq) (s : State) :
    (request r s).ru = s.ru ∧ (request r s).pu = s.pu ∧ (request r s).sc = s.sc ∧ (request r s).wc = s.wc ∧
    (request r s).fu = s.fu ∧ (request r s).cq = s.cq ∧ (request r s).mem = s.mem ∧
    (request r s).pending = s.pending ∧ (request r s).freeCount = s.freeCount := by
  simp [request]

@[simp] theorem releaseLink_frame (s : State) :
    (releaseLink s).ru = s.ru ∧ (releaseLink s).pu = s.pu ∧ (releaseLink s).sc = s.sc ∧
    (releaseLink s).wc = s.wc ∧ (releaseLink s).fu = s.fu ∧ (releaseLink s).cq = s.cq ∧
    (releaseLink s).mem = s.mem ∧ (releaseLink s).pending = s.pending ∧ (releaseLink s).freeCount = s.freeCount := by
  simp [releaseLink]

@[simp] theorem landWrite_frame (r : MemReq) (s : State) :
    (landWrite r s).ru = s.ru ∧ (landWrite r s).pu = s.pu ∧ (landWrite r s).sc = s.sc ∧
    (landWrite r s).wc = s.wc ∧ (landWrite r s).fu = s.fu ∧ (landWrite r s).cq = s.cq ∧
    (landWrite r s).xp = s.xp ∧ (landWrite r s).pending = s.pending ∧ (landWrite r s).freeCount = s.freeCount := by
  simp [landWrite]

@[simp] theorem landFaulted_frame (r : MemReq) (s : State) :
    (landFaulted r s).ru = s.ru ∧ (landFaulted r s).pu = s.pu ∧ (landFaulted r s).sc = s.sc ∧
    (landFaulted r s).wc = s.wc ∧ (landFaulted r s).fu = s.fu ∧ (landFaulted r s).cq = s.cq ∧
    (landFaulted r s).xp = s.xp ∧ (landFaulted r s).pending = s.pending := by
  simp [landFaulted]

@[simp] theorem recordFault_frame (r : MemReq) (s : State) :
    (recordFault r s).ru = s.ru ∧ (recordFault r s).pu = s.pu ∧ (recordFault r s).sc = s.sc ∧
    (recordFault r s).wc = s.wc ∧ (recordFault r s).fu = s.fu ∧ (recordFault r s).cq = s.cq ∧
    (recordFault r s).mem = s.mem ∧ (recordFault r s).pending = s.pending ∧
    (recordFault r s).freeCount = s.freeCount := by
  simp [recordFault]

@[simp] theorem onLane_frame (n : Nat) (f : Lane → Lane) (s : State) :
    (onLane n f s).ru = s.ru ∧ (onLane n f s).pu = s.pu ∧ (onLane n f s).sc = s.sc ∧ (onLane n f s).wc = s.wc ∧
    (onLane n f s).cq = s.cq ∧ (onLane n f s).xp = s.xp ∧ (onLane n f s).mem = s.mem ∧
    (onLane n f s).pending = s.pending ∧ (onLane n f s).freeCount = s.freeCount := by
  simp [onLane]

@[simp] theorem imageRow_frame (p r : Nat) (c : Row) (s : State) :
    (imageRow p r c s).ru = s.ru ∧ (imageRow p r c s).pu = s.pu ∧ (imageRow p r c s).sc = s.sc ∧
    (imageRow p r c s).fu = s.fu ∧ (imageRow p r c s).cq = s.cq ∧ (imageRow p r c s).xp = s.xp ∧
    (imageRow p r c s).mem = s.mem ∧ (imageRow p r c s).pending = s.pending ∧
    (imageRow p r c s).freeCount = s.freeCount := by
  simp [imageRow]

@[simp] theorem acceptRecord_frame (n : Nat) (r : LineRec) (s : State) :
    (acceptRecord n r s).ru = s.ru ∧ (acceptRecord n r s).pu = s.pu ∧ (acceptRecord n r s).sc = s.sc ∧
    (acceptRecord n r s).cq = s.cq ∧ (acceptRecord n r s).xp = s.xp ∧ (acceptRecord n r s).mem = s.mem ∧
    (acceptRecord n r s).pending = s.pending ∧ (acceptRecord n r s).freeCount = s.freeCount := by
  simp [acceptRecord]

@[simp] theorem transmitNext_frame (n : Nat) (s : State) :
    (transmitNext n s).ru = s.ru ∧ (transmitNext n s).pu = s.pu ∧ (transmitNext n s).sc = s.sc ∧
    (transmitNext n s).cq = s.cq ∧ (transmitNext n s).xp = s.xp ∧ (transmitNext n s).mem = s.mem ∧
    (transmitNext n s).pending = s.pending ∧ (transmitNext n s).freeCount = s.freeCount := by
  unfold transmitNext
  split
  · simp
  · split <;> (try split) <;> simp

@[simp] theorem handRecord_frame (n : Nat) (r : LineRec) (s : State) :
    (handRecord n r s).ru = s.ru ∧ (handRecord n r s).pu = s.pu ∧ (handRecord n r s).sc = s.sc ∧
    (handRecord n r s).cq = s.cq ∧ (handRecord n r s).xp = s.xp ∧ (handRecord n r s).mem = s.mem ∧
    (handRecord n r s).pending = s.pending ∧ (handRecord n r s).freeCount = s.freeCount := by
  unfold handRecord
  split
  · simp
  · split <;> simp

@[simp] theorem handClock_frame (n : Nat) (c : ClockRec) (s : State) :
    (handClock n c s).ru = s.ru ∧ (handClock n c s).pu = s.pu ∧ (handClock n c s).sc = s.sc ∧
    (handClock n c s).cq = s.cq ∧ (handClock n c s).xp = s.xp ∧ (handClock n c s).mem = s.mem ∧
    (handClock n c s).pending = s.pending ∧ (handClock n c s).freeCount = s.freeCount := by
  simp [handClock]

@[simp] theorem handClocks_frame (t : Bool → List Byte) (h : Bool) (s : State) :
    (handClocks t h s).ru = s.ru ∧ (handClocks t h s).pu = s.pu ∧ (handClocks t h s).sc = s.sc ∧
    (handClocks t h s).cq = s.cq ∧ (handClocks t h s).xp = s.xp ∧ (handClocks t h s).mem = s.mem ∧
    (handClocks t h s).pending = s.pending ∧ (handClocks t h s).freeCount = s.freeCount := by
  unfold handClocks
  refine ⟨?_, ?_, ?_, ?_, ?_, ?_, ?_, ?_⟩ <;>
    exact foldl_view _ _ (fun s a => by split <;> simp) _ _

@[simp] theorem clockRecords_frame (s : State) :
    (clockRecords s).ru = s.ru ∧ (clockRecords s).pu = s.pu ∧ (clockRecords s).sc = s.sc ∧
    (clockRecords s).cq = s.cq ∧ (clockRecords s).xp = s.xp ∧ (clockRecords s).mem = s.mem ∧
    (clockRecords s).pending = s.pending ∧ (clockRecords s).freeCount = s.freeCount := by
  simp [clockRecords]

@[simp] theorem handRows_frame (i : Nat) (p : Panel) (l : List Nat) (s : State) :
    (l.foldl (fun acc j => handRecord p.lane ⟨i, p.addr, j + 1, blankRow⟩ acc) s).ru = s.ru ∧
    (l.foldl (fun acc j => handRecord p.lane ⟨i, p.addr, j + 1, blankRow⟩ acc) s).pu = s.pu ∧
    (l.foldl (fun acc j => handRecord p.lane ⟨i, p.addr, j + 1, blankRow⟩ acc) s).sc = s.sc ∧
    (l.foldl (fun acc j => handRecord p.lane ⟨i, p.addr, j + 1, blankRow⟩ acc) s).cq = s.cq ∧
    (l.foldl (fun acc j => handRecord p.lane ⟨i, p.addr, j + 1, blankRow⟩ acc) s).xp = s.xp ∧
    (l.foldl (fun acc j => handRecord p.lane ⟨i, p.addr, j + 1, blankRow⟩ acc) s).mem = s.mem ∧
    (l.foldl (fun acc j => handRecord p.lane ⟨i, p.addr, j + 1, blankRow⟩ acc) s).pending = s.pending ∧
    (l.foldl (fun acc j => handRecord p.lane ⟨i, p.addr, j + 1, blankRow⟩ acc) s).freeCount = s.freeCount := by
  refine ⟨?_, ?_, ?_, ?_, ?_, ?_, ?_, ?_⟩ <;> exact foldl_view _ _ (fun s a => by simp) _ _

@[simp] theorem handBlanks_frame (s : State) :
    (handBlanks s).ru = s.ru ∧ (handBlanks s).pu = s.pu ∧ (handBlanks s).sc = s.sc ∧ (handBlanks s).cq = s.cq ∧
    (handBlanks s).xp = s.xp ∧ (handBlanks s).mem = s.mem ∧ (handBlanks s).pending = s.pending ∧
    (handBlanks s).freeCount = s.freeCount := by
  unfold handBlanks
  simp only [handClocks_frame]
  refine ⟨?_, ?_, ?_, ?_, ?_, ?_, ?_, ?_⟩ <;>
    exact foldl_view _ _ (fun s a => by simp) _ _

@[simp] theorem transmissionDone_frame (n : Nat) (s : State) :
    (transmissionDone n s).ru = s.ru ∧ (transmissionDone n s).pu = s.pu ∧ (transmissionDone n s).sc = s.sc ∧
    (transmissionDone n s).cq = s.cq ∧ (transmissionDone n s).xp = s.xp ∧ (transmissionDone n s).mem = s.mem ∧
    (transmissionDone n s).pending = s.pending ∧ (transmissionDone n s).freeCount = s.freeCount := by
  unfold transmissionDone
  split
  · split <;> simp
  · simp

@[simp] theorem startFetch_frame (s : State) :
    (startFetch s).ru = s.ru ∧ (startFetch s).pu = s.pu ∧ (startFetch s).sc = s.sc ∧ (startFetch s).fu = s.fu ∧
    (startFetch s).cq = s.cq ∧ (startFetch s).mem = s.mem ∧ (startFetch s).pending = s.pending ∧
    (startFetch s).freeCount = s.freeCount := by
  unfold startFetch; split <;> simp

@[simp] theorem askName_frame (c : Bool) (i : Nat) (s : State) :
    (askName c i s).ru = s.ru ∧ (askName c i s).pu = s.pu ∧ (askName c i s).sc = s.sc ∧
    (askName c i s).fu = s.fu ∧ (askName c i s).cq = s.cq ∧ (askName c i s).mem = s.mem ∧
    (askName c i s).pending = s.pending ∧ (askName c i s).freeCount = s.freeCount := by
  unfold askName
  split
  · split <;> simp
  · simp

@[simp] theorem lookupName_frame (c : Bool) (i : Nat) (s : State) :
    (lookupName c i s).1.ru = s.ru ∧ (lookupName c i s).1.pu = s.pu ∧ (lookupName c i s).1.sc = s.sc ∧
    (lookupName c i s).1.fu = s.fu ∧ (lookupName c i s).1.cq = s.cq ∧ (lookupName c i s).1.mem = s.mem ∧
    (lookupName c i s).1.pending = s.pending ∧ (lookupName c i s).1.freeCount = s.freeCount := by
  unfold lookupName
  split
  · simp
  · split <;> simp

@[simp] theorem lookupNames_frame (c : Bool) (l : List Nat) (s : State) :
    (lookupNames c l s).state.ru = s.ru ∧ (lookupNames c l s).state.pu = s.pu ∧
    (lookupNames c l s).state.sc = s.sc ∧ (lookupNames c l s).state.fu = s.fu ∧
    (lookupNames c l s).state.cq = s.cq ∧ (lookupNames c l s).state.mem = s.mem ∧
    (lookupNames c l s).state.pending = s.pending ∧ (lookupNames c l s).state.freeCount = s.freeCount := by
  induction l generalizing s with
  | nil => simp [lookupNames]
  | cons i l ih =>
    have h := ih (lookupName c i s).1
    simp only [lookupName_frame] at h
    unfold lookupNames
    dsimp only
    split <;> exact h

@[simp] theorem nameReturned_frame (r : Option NameText) (s : State) :
    (nameReturned r s).ru = s.ru ∧ (nameReturned r s).pu = s.pu ∧ (nameReturned r s).sc = s.sc ∧
    (nameReturned r s).fu = s.fu ∧ (nameReturned r s).mem = s.mem ∧ (nameReturned r s).pending = s.pending ∧
    (nameReturned r s).freeCount = s.freeCount := by
  unfold nameReturned; split <;> simp

@[simp] theorem flushNames_frame (n : Option Nat) (s : State) :
    (flushNames n s).ru = s.ru ∧ (flushNames n s).pu = s.pu ∧ (flushNames n s).sc = s.sc ∧
    (flushNames n s).fu = s.fu ∧ (flushNames n s).cq = s.cq ∧ (flushNames n s).xp = s.xp ∧
    (flushNames n s).mem = s.mem ∧ (flushNames n s).pending = s.pending ∧
    (flushNames n s).freeCount = s.freeCount := by
  simp [flushNames]

@[simp] theorem beginPublication_frame (s : State) :
    (beginPublication s).ru = s.ru ∧ (beginPublication s).pu = s.pu ∧ (beginPublication s).sc = s.sc ∧
    (beginPublication s).wc = s.wc ∧ (beginPublication s).fu = s.fu ∧ (beginPublication s).cq = s.cq ∧
    (beginPublication s).mem = s.mem ∧ (beginPublication s).pending = s.pending ∧
    (beginPublication s).freeCount = s.freeCount := by
  simp [beginPublication]

@[simp] theorem requestPublication_frame (s : State) :
    (requestPublication s).ru = s.ru ∧ (requestPublication s).pu = s.pu ∧ (requestPublication s).sc = s.sc ∧
    (requestPublication s).wc = s.wc ∧ (requestPublication s).fu = s.fu ∧ (requestPublication s).cq = s.cq ∧
    (requestPublication s).mem = s.mem ∧ (requestPublication s).pending = s.pending ∧
    (requestPublication s).freeCount = s.freeCount := by
  unfold requestPublication; split <;> simp

@[simp] theorem endPublication_frame (s : State) :
    (endPublication s).ru = s.ru ∧ (endPublication s).pu = s.pu ∧ (endPublication s).sc = s.sc ∧
    (endPublication s).wc = s.wc ∧ (endPublication s).fu = s.fu ∧ (endPublication s).cq = s.cq ∧
    (endPublication s).mem = s.mem ∧ (endPublication s).pending = s.pending ∧
    (endPublication s).freeCount = s.freeCount := by
  unfold endPublication; split <;> simp

@[simp] theorem publishCountWritten_frame (s : State) :
    (publishCountWritten s).ru = s.ru ∧ (publishCountWritten s).pu = s.pu ∧ (publishCountWritten s).sc = s.sc ∧
    (publishCountWritten s).wc = s.wc ∧ (publishCountWritten s).fu = s.fu ∧ (publishCountWritten s).cq = s.cq ∧
    (publishCountWritten s).mem = s.mem ∧ (publishCountWritten s).pending = s.pending ∧
    (publishCountWritten s).freeCount = s.freeCount := by
  unfold publishCountWritten
  split
  · simp
  · split <;> simp

@[simp] theorem publishContentWritten_frame (s : State) :
    (publishContentWritten s).ru = s.ru ∧ (publishContentWritten s).pu = s.pu ∧
    (publishContentWritten s).sc = s.sc ∧ (publishContentWritten s).wc = s.wc ∧
    (publishContentWritten s).fu = s.fu ∧ (publishContentWritten s).cq = s.cq ∧
    (publishContentWritten s).mem = s.mem ∧ (publishContentWritten s).pending = s.pending ∧
    (publishContentWritten s).freeCount = s.freeCount := by
  unfold publishContentWritten
  split
  · simp
  · split <;> simp

@[simp] theorem publicationFailed_frame (s : State) :
    (publicationFailed s).ru = s.ru ∧ (publicationFailed s).pu = s.pu ∧ (publicationFailed s).sc = s.sc ∧
    (publicationFailed s).wc = s.wc ∧ (publicationFailed s).fu = s.fu ∧ (publicationFailed s).cq = s.cq ∧
    (publicationFailed s).mem = s.mem ∧ (publicationFailed s).pending = s.pending ∧
    (publicationFailed s).freeCount = s.freeCount := by
  unfold publicationFailed
  split
  · simp
  · split <;> simp

@[simp] theorem tryOpenPage_frame (s : State) :
    (tryOpenPage s).ru = s.ru ∧ (tryOpenPage s).pu = s.pu ∧ (tryOpenPage s).sc = s.sc ∧
    (tryOpenPage s).wc = s.wc ∧ (tryOpenPage s).fu = s.fu ∧ (tryOpenPage s).mem = s.mem ∧
    (tryOpenPage s).pending = s.pending ∧ (tryOpenPage s).freeCount = s.freeCount := by
  unfold tryOpenPage; split <;> simp

@[simp] theorem takeRequest_frame (r : CueReq) (s : State) :
    (takeRequest r s).ru = s.ru ∧ (takeRequest r s).pu = s.pu ∧ (takeRequest r s).sc = s.sc ∧
    (takeRequest r s).wc = s.wc ∧ (takeRequest r s).fu = s.fu ∧ (takeRequest r s).mem = s.mem ∧
    (takeRequest r s).pending = s.pending ∧ (takeRequest r s).freeCount = s.freeCount := by
  unfold takeRequest
  split
  · simp
  · split <;> simp

@[simp] theorem takeRemoval_frame (l : List Nat) (s : State) :
    (takeRemoval l s).ru = s.ru ∧ (takeRemoval l s).pu = s.pu ∧ (takeRemoval l s).sc = s.sc ∧
    (takeRemoval l s).wc = s.wc ∧ (takeRemoval l s).fu = s.fu ∧ (takeRemoval l s).xp = s.xp ∧
    (takeRemoval l s).mem = s.mem ∧ (takeRemoval l s).pending = s.pending ∧
    (takeRemoval l s).freeCount = s.freeCount := by
  simp [takeRemoval]

@[simp] theorem startTally_frame (s : State) :
    (startTally s).ru = s.ru ∧ (startTally s).pu = s.pu ∧ (startTally s).sc = s.sc ∧ (startTally s).wc = s.wc ∧
    (startTally s).fu = s.fu ∧ (startTally s).mem = s.mem ∧ (startTally s).pending = s.pending ∧
    (startTally s).freeCount = s.freeCount := by
  unfold startTally; split <;> simp

@[simp] theorem tallyException_frame (s : State) :
    (tallyException s).ru = s.ru ∧ (tallyException s).pu = s.pu ∧ (tallyException s).sc = s.sc ∧
    (tallyException s).wc = s.wc ∧ (tallyException s).fu = s.fu ∧ (tallyException s).xp = s.xp ∧
    (tallyException s).mem = s.mem ∧ (tallyException s).pending = s.pending ∧
    (tallyException s).freeCount = s.freeCount := by
  simp [tallyException]

@[simp] theorem addTally_frame (c : Cue) (s : State) :
    (addTally c s).ru = s.ru ∧ (addTally c s).pu = s.pu ∧ (addTally c s).sc = s.sc ∧ (addTally c s).wc = s.wc ∧
    (addTally c s).fu = s.fu ∧ (addTally c s).mem = s.mem ∧ (addTally c s).pending = s.pending ∧
    (addTally c s).freeCount = s.freeCount := by
  unfold addTally
  split_ifs <;> simp

@[simp] theorem endTally_frame (s : State) :
    (endTally s).ru = s.ru ∧ (endTally s).pu = s.pu ∧ (endTally s).sc = s.sc ∧ (endTally s).wc = s.wc ∧
    (endTally s).fu = s.fu ∧ (endTally s).mem = s.mem ∧ (endTally s).pending = s.pending ∧
    (endTally s).freeCount = s.freeCount := by
  simp [endTally]

@[simp] theorem tallyHalfRead_frame (h : Nat) (s : State) :
    (tallyHalfRead h s).ru = s.ru ∧ (tallyHalfRead h s).pu = s.pu ∧ (tallyHalfRead h s).sc = s.sc ∧
    (tallyHalfRead h s).wc = s.wc ∧ (tallyHalfRead h s).fu = s.fu ∧ (tallyHalfRead h s).mem = s.mem ∧
    (tallyHalfRead h s).pending = s.pending ∧ (tallyHalfRead h s).freeCount = s.freeCount := by
  unfold tallyHalfRead
  split
  · split <;> simp
  · simp

@[simp] theorem tallyWordRead_frame (w : Nat) (s : State) :
    (tallyWordRead w s).ru = s.ru ∧ (tallyWordRead w s).pu = s.pu ∧ (tallyWordRead w s).sc = s.sc ∧
    (tallyWordRead w s).wc = s.wc ∧ (tallyWordRead w s).fu = s.fu ∧ (tallyWordRead w s).mem = s.mem ∧
    (tallyWordRead w s).pending = s.pending ∧ (tallyWordRead w s).freeCount = s.freeCount := by
  unfold tallyWordRead; split <;> simp

@[simp] theorem tallyHalfWritten_frame (s : State) :
    (tallyHalfWritten s).ru = s.ru ∧ (tallyHalfWritten s).pu = s.pu ∧ (tallyHalfWritten s).sc = s.sc ∧
    (tallyHalfWritten s).wc = s.wc ∧ (tallyHalfWritten s).fu = s.fu ∧ (tallyHalfWritten s).mem = s.mem ∧
    (tallyHalfWritten s).pending = s.pending ∧ (tallyHalfWritten s).freeCount = s.freeCount := by
  unfold tallyHalfWritten; split <;> simp

@[simp] theorem tallyWordWritten_frame (s : State) :
    (tallyWordWritten s).ru = s.ru ∧ (tallyWordWritten s).pu = s.pu ∧ (tallyWordWritten s).sc = s.sc ∧
    (tallyWordWritten s).wc = s.wc ∧ (tallyWordWritten s).fu = s.fu ∧ (tallyWordWritten s).mem = s.mem ∧
    (tallyWordWritten s).pending = s.pending ∧ (tallyWordWritten s).freeCount = s.freeCount := by
  unfold tallyWordWritten; split <;> simp

@[simp] theorem tallyFailed_frame (s : State) :
    (tallyFailed s).ru = s.ru ∧ (tallyFailed s).pu = s.pu ∧ (tallyFailed s).sc = s.sc ∧
    (tallyFailed s).wc = s.wc ∧ (tallyFailed s).fu = s.fu ∧ (tallyFailed s).mem = s.mem ∧
    (tallyFailed s).pending = s.pending ∧ (tallyFailed s).freeCount = s.freeCount := by
  simp [tallyFailed]

@[simp] theorem progressWrite_frame (s : State) :
    (progressWrite s).ru = s.ru ∧ (progressWrite s).pu = s.pu ∧ (progressWrite s).sc = s.sc ∧
    (progressWrite s).wc = s.wc ∧ (progressWrite s).fu = s.fu ∧ (progressWrite s).mem = s.mem ∧
    (progressWrite s).pending = s.pending ∧ (progressWrite s).freeCount = s.freeCount := by
  unfold progressWrite
  split
  · split <;> simp
  · simp

@[simp] theorem takeFirstEligible_frame (s : State) :
    (takeFirstEligible s).ru = s.ru ∧ (takeFirstEligible s).pu = s.pu ∧ (takeFirstEligible s).sc = s.sc ∧
    (takeFirstEligible s).fu = s.fu ∧ (takeFirstEligible s).mem = s.mem ∧
    (takeFirstEligible s).pending = s.pending ∧ (takeFirstEligible s).freeCount = s.freeCount := by
  unfold takeFirstEligible; split <;> simp

@[simp] theorem writerTest_frame (s : State) :
    (writerTest s).ru = s.ru ∧ (writerTest s).pu = s.pu ∧ (writerTest s).sc = s.sc ∧ (writerTest s).fu = s.fu ∧
    (writerTest s).mem = s.mem ∧ (writerTest s).pending = s.pending ∧ (writerTest s).freeCount = s.freeCount := by
  unfold writerTest; split <;> simp

@[simp] theorem beginClose_frame (c : CloseCauses) (s : State) :
    (beginClose c s).ru = s.ru ∧ (beginClose c s).pu = s.pu ∧ (beginClose c s).sc = s.sc ∧
    (beginClose c s).wc = s.wc ∧ (beginClose c s).fu = s.fu ∧ (beginClose c s).mem = s.mem ∧
    (beginClose c s).pending = s.pending ∧ (beginClose c s).freeCount = s.freeCount := by
  unfold beginClose; split <;> simp

@[simp] theorem pageHeaderWritten_frame (s : State) :
    (pageHeaderWritten s).ru = s.ru ∧ (pageHeaderWritten s).pu = s.pu ∧ (pageHeaderWritten s).sc = s.sc ∧
    (pageHeaderWritten s).wc = s.wc ∧ (pageHeaderWritten s).fu = s.fu ∧ (pageHeaderWritten s).cq = s.cq ∧
    (pageHeaderWritten s).mem = s.mem ∧ (pageHeaderWritten s).pending = s.pending ∧
    (pageHeaderWritten s).freeCount = s.freeCount := by
  unfold pageHeaderWritten; split <;> simp

@[simp] theorem pulseStrobes_frame (s : State) :
    (pulseStrobes s).ru = s.ru ∧ (pulseStrobes s).pu = s.pu ∧ (pulseStrobes s).sc = s.sc ∧
    (pulseStrobes s).wc = s.wc ∧ (pulseStrobes s).cq = s.cq ∧ (pulseStrobes s).xp = s.xp ∧
    (pulseStrobes s).mem = s.mem ∧ (pulseStrobes s).pending = s.pending ∧
    (pulseStrobes s).freeCount = s.freeCount := by
  simp [pulseStrobes]

@[simp] theorem pageClosed_frame (s : State) :
    (pageClosed s).ru = s.ru ∧ (pageClosed s).pu = s.pu ∧ (pageClosed s).sc = s.sc ∧ (pageClosed s).wc = s.wc ∧
    (pageClosed s).mem = s.mem ∧ (pageClosed s).pending = s.pending ∧ (pageClosed s).freeCount = s.freeCount := by
  simp [pageClosed]

@[simp] theorem recordWritten_frame (s : State) :
    (recordWritten s).ru = s.ru ∧ (recordWritten s).pu = s.pu ∧ (recordWritten s).sc = s.sc ∧
    (recordWritten s).fu = s.fu ∧ (recordWritten s).mem = s.mem ∧ (recordWritten s).pending = s.pending ∧
    (recordWritten s).freeCount = s.freeCount := by
  unfold recordWritten
  split
  · dsimp only
    split <;> simp
  · simp

@[simp] theorem holdExpired_frame (s : State) :
    (holdExpired s).ru = s.ru ∧ (holdExpired s).pu = s.pu ∧ (holdExpired s).sc = s.sc ∧
    (holdExpired s).wc = s.wc ∧ (holdExpired s).fu = s.fu ∧ (holdExpired s).mem = s.mem ∧
    (holdExpired s).pending = s.pending ∧ (holdExpired s).freeCount = s.freeCount := by
  unfold holdExpired
  split
  · simp
  · split
    · split
      · split <;> simp
      · simp
    · simp

@[simp] theorem openAtCursor_frame (s : State) :
    (openAtCursor s).ru = s.ru ∧ (openAtCursor s).pu = s.pu ∧ (openAtCursor s).sc = s.sc ∧
    (openAtCursor s).fu = s.fu ∧ (openAtCursor s).mem = s.mem ∧ (openAtCursor s).pending = s.pending ∧
    (openAtCursor s).freeCount = s.freeCount := by
  simp [openAtCursor]

@[simp] theorem setRetry_frame (s : State) :
    (setRetry s).ru = s.ru ∧ (setRetry s).pu = s.pu ∧ (setRetry s).sc = s.sc ∧ (setRetry s).wc = s.wc ∧
    (setRetry s).fu = s.fu ∧ (setRetry s).xp = s.xp ∧ (setRetry s).mem = s.mem ∧
    (setRetry s).pending = s.pending ∧ (setRetry s).freeCount = s.freeCount := by
  simp [setRetry]

@[simp] theorem stateWordReturned_frame (w : Nat) (s : State) :
    (stateWordReturned w s).ru = s.ru ∧ (stateWordReturned w s).pu = s.pu ∧ (stateWordReturned w s).sc = s.sc ∧
    (stateWordReturned w s).fu = s.fu ∧ (stateWordReturned w s).mem = s.mem ∧
    (stateWordReturned w s).pending = s.pending ∧ (stateWordReturned w s).freeCount = s.freeCount := by
  unfold stateWordReturned
  split
  · split <;> simp
  · simp

@[simp] theorem openWritten_frame (s : State) :
    (openWritten s).ru = s.ru ∧ (openWritten s).pu = s.pu ∧ (openWritten s).sc = s.sc ∧
    (openWritten s).wc = s.wc ∧ (openWritten s).fu = s.fu ∧ (openWritten s).mem = s.mem ∧
    (openWritten s).pending = s.pending ∧ (openWritten s).freeCount = s.freeCount := by
  unfold openWritten; split <;> (try split) <;> simp

@[simp] theorem retryReached_frame (s : State) :
    (retryReached s).ru = s.ru ∧ (retryReached s).pu = s.pu ∧ (retryReached s).sc = s.sc ∧
    (retryReached s).wc = s.wc ∧ (retryReached s).fu = s.fu ∧ (retryReached s).mem = s.mem ∧
    (retryReached s).pending = s.pending ∧ (retryReached s).freeCount = s.freeCount := by
  unfold retryReached
  split
  · split <;> simp
  · simp

@[simp] theorem pageWriteFault_frame (s : State) :
    (pageWriteFault s).ru = s.ru ∧ (pageWriteFault s).pu = s.pu ∧ (pageWriteFault s).sc = s.sc ∧
    (pageWriteFault s).wc = s.wc ∧ (pageWriteFault s).fu = s.fu ∧ (pageWriteFault s).mem = s.mem ∧
    (pageWriteFault s).pending = s.pending ∧ (pageWriteFault s).freeCount = s.freeCount := by
  unfold pageWriteFault; split <;> simp

@[simp] theorem framesReached_frame (s : State) :
    (framesReached s).ru = s.ru ∧ (framesReached s).pu = s.pu ∧ (framesReached s).sc = s.sc ∧
    (framesReached s).fu = s.fu ∧ (framesReached s).mem = s.mem ∧ (framesReached s).pending = s.pending ∧
    (framesReached s).freeCount = s.freeCount := by
  simp [framesReached]

@[simp] theorem emitRow_frame (b : Bool) (cs : List (Nat × NameText)) (i : Nat) (p : Panel) (r : Nat × SymRow) (s : State) :
    (emitRow b cs i p r s).ru = s.ru ∧ (emitRow b cs i p r s).pu = s.pu ∧ (emitRow b cs i p r s).sc = s.sc ∧
    (emitRow b cs i p r s).cq = s.cq ∧ (emitRow b cs i p r s).xp = s.xp ∧ (emitRow b cs i p r s).mem = s.mem ∧
    (emitRow b cs i p r s).pending = s.pending ∧ (emitRow b cs i p r s).freeCount = s.freeCount := by
  unfold emitRow
  dsimp only
  split <;> simp

@[simp] theorem emitPanel_frame (b : Bool) (cs : List (Nat × NameText)) (i : Nat) (p : Panel) (l : List (Nat × SymRow)) (s : State) :
    (l.foldl (fun acc r => emitRow b cs i p r acc) s).ru = s.ru ∧
    (l.foldl (fun acc r => emitRow b cs i p r acc) s).pu = s.pu ∧
    (l.foldl (fun acc r => emitRow b cs i p r acc) s).sc = s.sc ∧
    (l.foldl (fun acc r => emitRow b cs i p r acc) s).cq = s.cq ∧
    (l.foldl (fun acc r => emitRow b cs i p r acc) s).xp = s.xp ∧
    (l.foldl (fun acc r => emitRow b cs i p r acc) s).mem = s.mem ∧
    (l.foldl (fun acc r => emitRow b cs i p r acc) s).pending = s.pending ∧
    (l.foldl (fun acc r => emitRow b cs i p r acc) s).freeCount = s.freeCount := by
  refine ⟨?_, ?_, ?_, ?_, ?_, ?_, ?_, ?_⟩ <;> exact foldl_view _ _ (fun s a => by simp) _ _

@[simp] theorem emitRows_frame (s : State) :
    (emitRows s).ru = s.ru ∧ (emitRows s).pu = s.pu ∧ (emitRows s).sc = s.sc ∧ (emitRows s).cq = s.cq ∧
    (emitRows s).xp = s.xp ∧ (emitRows s).mem = s.mem ∧ (emitRows s).pending = s.pending ∧
    (emitRows s).freeCount = s.freeCount := by
  unfold emitRows
  split
  · simp
  · refine ⟨?_, ?_, ?_, ?_, ?_, ?_, ?_, ?_⟩ <;>
      exact (foldl_view _ _ (fun s a => by simp) _ _).trans (by simp)

@[simp] theorem progressNames_frame (s : State) :
    (progressNames s).ru = s.ru ∧ (progressNames s).pu = s.pu ∧ (progressNames s).sc = s.sc ∧
    (progressNames s).cq = s.cq ∧ (progressNames s).xp = s.xp ∧ (progressNames s).mem = s.mem ∧
    (progressNames s).pending = s.pending ∧ (progressNames s).freeCount = s.freeCount := by
  unfold progressNames
  split
  · split <;> simp
  · simp

@[simp] theorem startFrame_frame (s : State) :
    (startFrame s).ru = s.ru ∧ (startFrame s).pu = s.pu ∧ (startFrame s).sc = s.sc ∧ (startFrame s).cq = s.cq ∧
    (startFrame s).mem = s.mem ∧ (startFrame s).pending = s.pending ∧ (startFrame s).freeCount = s.freeCount := by
  simp [startFrame]

@[simp] theorem completeFrame_frame (s : State) :
    (completeFrame s).ru = s.ru ∧ (completeFrame s).pu = s.pu ∧ (completeFrame s).sc = s.sc ∧
    (completeFrame s).fu = s.fu ∧ (completeFrame s).mem = s.mem ∧ (completeFrame s).pending = s.pending ∧
    (completeFrame s).freeCount = s.freeCount := by
  simp [completeFrame]

@[simp] theorem progressFrame_frame (s : State) :
    (progressFrame s).ru = s.ru ∧ (progressFrame s).pu = s.pu ∧ (progressFrame s).sc = s.sc ∧
    (progressFrame s).mem = s.mem ∧ (progressFrame s).pending = s.pending ∧
    (progressFrame s).freeCount = s.freeCount := by
  unfold progressFrame
  split
  · dsimp only
    split
    · split <;> simp
    · simp
  · simp

@[simp] theorem requestFrame_frame (s : State) :
    (requestFrame s).ru = s.ru ∧ (requestFrame s).pu = s.pu ∧ (requestFrame s).sc = s.sc ∧
    (requestFrame s).mem = s.mem ∧ (requestFrame s).pending = s.pending ∧
    (requestFrame s).freeCount = s.freeCount := by
  unfold requestFrame
  split
  · split <;> simp
  · simp

end Sys2Proof.Machine
end

