-- ==== Sys2Proof/Laws/Port.lean ====
section
/-! SUPPORT. What each operation leaves alone in the Exchange Port: everything but the link, the attention flags it
raises and, for those that publish, the publication. -/

namespace Sys2Proof.Machine

@[simp] theorem raiseAttn_port (f : AttnFlag) (s : State) :
    (raiseAttn f s).xp.run = s.xp.run ∧ (raiseAttn f s).xp.xbase = s.xp.xbase ∧
    (raiseAttn f s).xp.attnen = s.xp.attnen ∧ (raiseAttn f s).xp.postQueue = s.xp.postQueue ∧
    (raiseAttn f s).xp.faultCode = s.xp.faultCode ∧ (raiseAttn f s).xp.faultIndex = s.xp.faultIndex ∧
    (raiseAttn f s).xp.refusedSlot = s.xp.refusedSlot ∧ (raiseAttn f s).xp.refusal = s.xp.refusal ∧
    (raiseAttn f s).xp.faultArea = s.xp.faultArea ∧ (raiseAttn f s).xp.faultAddr = s.xp.faultAddr ∧
    (raiseAttn f s).xp.stopRequested = s.xp.stopRequested ∧ (raiseAttn f s).xp.stopStage = s.xp.stopStage ∧
    (raiseAttn f s).xp.sheet = s.xp.sheet ∧ (raiseAttn f s).xp.clampCount = s.xp.clampCount ∧
    (raiseAttn f s).xp.publishCount = s.xp.publishCount ∧ (raiseAttn f s).xp.publication = s.xp.publication ∧
    (raiseAttn f s).xp.publishWanted = s.xp.publishWanted := by
  simp [raiseAttn]

@[simp] theorem enterRun_port (r : RunState) (s : State) :
    (enterRun r s).xp.xbase = s.xp.xbase ∧ (enterRun r s).xp.attnen = s.xp.attnen ∧
    (enterRun r s).xp.postQueue = s.xp.postQueue ∧ (enterRun r s).xp.faultCode = s.xp.faultCode ∧
    (enterRun r s).xp.faultIndex = s.xp.faultIndex ∧ (enterRun r s).xp.refusedSlot = s.xp.refusedSlot ∧
    (enterRun r s).xp.refusal = s.xp.refusal ∧ (enterRun r s).xp.faultArea = s.xp.faultArea ∧
    (enterRun r s).xp.faultAddr = s.xp.faultAddr ∧ (enterRun r s).xp.stopRequested = s.xp.stopRequested ∧
    (enterRun r s).xp.stopStage = s.xp.stopStage ∧ (enterRun r s).xp.sheet = s.xp.sheet ∧
    (enterRun r s).xp.clampCount = s.xp.clampCount ∧ (enterRun r s).xp.publishCount = s.xp.publishCount ∧
    (enterRun r s).xp.publication = s.xp.publication ∧ (enterRun r s).xp.publishWanted = s.xp.publishWanted := by
  simp [enterRun]

@[simp] theorem request_port (r : MemReq) (s : State) :
    (request r s).xp.run = s.xp.run ∧ (request r s).xp.xbase = s.xp.xbase ∧ (request r s).xp.attn = s.xp.attn ∧
    (request r s).xp.attnen = s.xp.attnen ∧ (request r s).xp.postQueue = s.xp.postQueue ∧
    (request r s).xp.faultCode = s.xp.faultCode ∧ (request r s).xp.faultIndex = s.xp.faultIndex ∧
    (request r s).xp.refusedSlot = s.xp.refusedSlot ∧ (request r s).xp.refusal = s.xp.refusal ∧
    (request r s).xp.faultArea = s.xp.faultArea ∧ (request r s).xp.faultAddr = s.xp.faultAddr ∧
    (request r s).xp.stopRequested = s.xp.stopRequested ∧ (request r s).xp.stopStage = s.xp.stopStage ∧
    (request r s).xp.sheet = s.xp.sheet ∧ (request r s).xp.clampCount = s.xp.clampCount ∧
    (request r s).xp.publishCount = s.xp.publishCount ∧ (request r s).xp.publication = s.xp.publication ∧
    (request r s).xp.publishWanted = s.xp.publishWanted := by
  simp only [request, onXp_xp]
  split <;> simp

@[simp] theorem releaseLink_port (s : State) :
    (releaseLink s).xp.run = s.xp.run ∧ (releaseLink s).xp.xbase = s.xp.xbase ∧
    (releaseLink s).xp.attn = s.xp.attn ∧ (releaseLink s).xp.attnen = s.xp.attnen ∧
    (releaseLink s).xp.postQueue = s.xp.postQueue ∧ (releaseLink s).xp.faultCode = s.xp.faultCode ∧
    (releaseLink s).xp.faultIndex = s.xp.faultIndex ∧ (releaseLink s).xp.refusedSlot = s.xp.refusedSlot ∧
    (releaseLink s).xp.refusal = s.xp.refusal ∧ (releaseLink s).xp.faultArea = s.xp.faultArea ∧
    (releaseLink s).xp.faultAddr = s.xp.faultAddr ∧ (releaseLink s).xp.stopRequested = s.xp.stopRequested ∧
    (releaseLink s).xp.stopStage = s.xp.stopStage ∧ (releaseLink s).xp.sheet = s.xp.sheet ∧
    (releaseLink s).xp.clampCount = s.xp.clampCount ∧ (releaseLink s).xp.publishCount = s.xp.publishCount ∧
    (releaseLink s).xp.publication = s.xp.publication ∧ (releaseLink s).xp.publishWanted = s.xp.publishWanted := by
  simp only [releaseLink, onXp_xp]
  split <;> simp

@[simp] theorem recordFault_port (r : MemReq) (s : State) :
    (recordFault r s).xp.run = s.xp.run ∧ (recordFault r s).xp.xbase = s.xp.xbase ∧
    (recordFault r s).xp.attnen = s.xp.attnen ∧ (recordFault r s).xp.postQueue = s.xp.postQueue ∧
    (recordFault r s).xp.faultCode = s.xp.faultCode ∧ (recordFault r s).xp.faultIndex = s.xp.faultIndex ∧
    (recordFault r s).xp.refusedSlot = s.xp.refusedSlot ∧ (recordFault r s).xp.refusal = s.xp.refusal ∧
    (recordFault r s).xp.stopRequested = s.xp.stopRequested ∧ (recordFault r s).xp.stopStage = s.xp.stopStage ∧
    (recordFault r s).xp.sheet = s.xp.sheet ∧ (recordFault r s).xp.clampCount = s.xp.clampCount ∧
    (recordFault r s).xp.publishCount = s.xp.publishCount ∧
    (recordFault r s).xp.publication = s.xp.publication ∧
    (recordFault r s).xp.publishWanted = s.xp.publishWanted := by
  simp [recordFault]

@[simp] theorem startFetch_port (s : State) :
    (startFetch s).xp.run = s.xp.run ∧ (startFetch s).xp.xbase = s.xp.xbase ∧
    (startFetch s).xp.attn = s.xp.attn ∧ (startFetch s).xp.attnen = s.xp.attnen ∧
    (startFetch s).xp.postQueue = s.xp.postQueue ∧ (startFetch s).xp.faultCode = s.xp.faultCode ∧
    (startFetch s).xp.faultIndex = s.xp.faultIndex ∧ (startFetch s).xp.refusedSlot = s.xp.refusedSlot ∧
    (startFetch s).xp.refusal = s.xp.refusal ∧ (startFetch s).xp.faultArea = s.xp.faultArea ∧
    (startFetch s).xp.faultAddr = s.xp.faultAddr ∧ (startFetch s).xp.stopRequested = s.xp.stopRequested ∧
    (startFetch s).xp.stopStage = s.xp.stopStage ∧ (startFetch s).xp.sheet = s.xp.sheet ∧
    (startFetch s).xp.clampCount = s.xp.clampCount ∧ (startFetch s).xp.publishCount = s.xp.publishCount ∧
    (startFetch s).xp.publication = s.xp.publication ∧ (startFetch s).xp.publishWanted = s.xp.publishWanted := by
  unfold startFetch; split <;> simp

@[simp] theorem askName_port (c : Bool) (i : Nat) (s : State) :
    (askName c i s).xp.run = s.xp.run ∧ (askName c i s).xp.xbase = s.xp.xbase ∧
    (askName c i s).xp.attn = s.xp.attn ∧ (askName c i s).xp.attnen = s.xp.attnen ∧
    (askName c i s).xp.postQueue = s.xp.postQueue ∧ (askName c i s).xp.faultCode = s.xp.faultCode ∧
    (askName c i s).xp.faultIndex = s.xp.faultIndex ∧ (askName c i s).xp.refusedSlot = s.xp.refusedSlot ∧
    (askName c i s).xp.refusal = s.xp.refusal ∧ (askName c i s).xp.faultArea = s.xp.faultArea ∧
    (askName c i s).xp.faultAddr = s.xp.faultAddr ∧ (askName c i s).xp.stopRequested = s.xp.stopRequested ∧
    (askName c i s).xp.stopStage = s.xp.stopStage ∧ (askName c i s).xp.sheet = s.xp.sheet ∧
    (askName c i s).xp.clampCount = s.xp.clampCount ∧ (askName c i s).xp.publishCount = s.xp.publishCount ∧
    (askName c i s).xp.publication = s.xp.publication ∧ (askName c i s).xp.publishWanted = s.xp.publishWanted := by
  unfold askName
  split
  · split <;> simp
  · simp

@[simp] theorem lookupName_port (c : Bool) (i : Nat) (s : State) :
    (lookupName c i s).1.xp.run = s.xp.run ∧ (lookupName c i s).1.xp.xbase = s.xp.xbase ∧
    (lookupName c i s).1.xp.attn = s.xp.attn ∧ (lookupName c i s).1.xp.attnen = s.xp.attnen ∧
    (lookupName c i s).1.xp.postQueue = s.xp.postQueue ∧
    (lookupName c i s).1.xp.faultCode = s.xp.faultCode ∧
    (lookupName c i s).1.xp.faultIndex = s.xp.faultIndex ∧
    (lookupName c i s).1.xp.refusedSlot = s.xp.refusedSlot ∧
    (lookupName c i s).1.xp.refusal = s.xp.refusal ∧ (lookupName c i s).1.xp.faultArea = s.xp.faultArea ∧
    (lookupName c i s).1.xp.faultAddr = s.xp.faultAddr ∧
    (lookupName c i s).1.xp.stopRequested = s.xp.stopRequested ∧
    (lookupName c i s).1.xp.stopStage = s.xp.stopStage ∧ (lookupName c i s).1.xp.sheet = s.xp.sheet ∧
    (lookupName c i s).1.xp.clampCount = s.xp.clampCount ∧
    (lookupName c i s).1.xp.publishCount = s.xp.publishCount ∧
    (lookupName c i s).1.xp.publication = s.xp.publication ∧
    (lookupName c i s).1.xp.publishWanted = s.xp.publishWanted := by
  unfold lookupName
  split
  · simp
  · split <;> simp

@[simp] theorem lookupNames_port (c : Bool) (l : List Nat) (s : State) :
    (lookupNames c l s).state.xp.run = s.xp.run ∧ (lookupNames c l s).state.xp.xbase = s.xp.xbase ∧
    (lookupNames c l s).state.xp.attn = s.xp.attn ∧ (lookupNames c l s).state.xp.attnen = s.xp.attnen ∧
    (lookupNames c l s).state.xp.postQueue = s.xp.postQueue ∧
    (lookupNames c l s).state.xp.faultCode = s.xp.faultCode ∧
    (lookupNames c l s).state.xp.faultIndex = s.xp.faultIndex ∧
    (lookupNames c l s).state.xp.refusedSlot = s.xp.refusedSlot ∧
    (lookupNames c l s).state.xp.refusal = s.xp.refusal ∧
    (lookupNames c l s).state.xp.faultArea = s.xp.faultArea ∧
    (lookupNames c l s).state.xp.faultAddr = s.xp.faultAddr ∧
    (lookupNames c l s).state.xp.stopRequested = s.xp.stopRequested ∧
    (lookupNames c l s).state.xp.stopStage = s.xp.stopStage ∧
    (lookupNames c l s).state.xp.sheet = s.xp.sheet ∧
    (lookupNames c l s).state.xp.clampCount = s.xp.clampCount ∧
    (lookupNames c l s).state.xp.publishCount = s.xp.publishCount ∧
    (lookupNames c l s).state.xp.publication = s.xp.publication ∧
    (lookupNames c l s).state.xp.publishWanted = s.xp.publishWanted := by
  induction l generalizing s with
  | nil => simp [lookupNames]
  | cons i l ih =>
    have h := ih (lookupName c i s).1
    simp only [lookupName_port] at h
    unfold lookupNames
    dsimp only
    split <;> exact h

@[simp] theorem nameReturned_port (r : Option NameText) (s : State) :
    (nameReturned r s).xp.run = s.xp.run ∧ (nameReturned r s).xp.xbase = s.xp.xbase ∧
    (nameReturned r s).xp.attn = s.xp.attn ∧ (nameReturned r s).xp.attnen = s.xp.attnen ∧
    (nameReturned r s).xp.postQueue = s.xp.postQueue ∧ (nameReturned r s).xp.faultCode = s.xp.faultCode ∧
    (nameReturned r s).xp.faultIndex = s.xp.faultIndex ∧ (nameReturned r s).xp.refusedSlot = s.xp.refusedSlot ∧
    (nameReturned r s).xp.refusal = s.xp.refusal ∧ (nameReturned r s).xp.faultArea = s.xp.faultArea ∧
    (nameReturned r s).xp.faultAddr = s.xp.faultAddr ∧
    (nameReturned r s).xp.stopRequested = s.xp.stopRequested ∧
    (nameReturned r s).xp.stopStage = s.xp.stopStage ∧ (nameReturned r s).xp.sheet = s.xp.sheet ∧
    (nameReturned r s).xp.clampCount = s.xp.clampCount ∧
    (nameReturned r s).xp.publishCount = s.xp.publishCount ∧
    (nameReturned r s).xp.publication = s.xp.publication ∧
    (nameReturned r s).xp.publishWanted = s.xp.publishWanted := by
  unfold nameReturned; split <;> simp

@[simp] theorem beginPublication_port (s : State) :
    (beginPublication s).xp.run = s.xp.run ∧ (beginPublication s).xp.xbase = s.xp.xbase ∧
    (beginPublication s).xp.attn = s.xp.attn ∧ (beginPublication s).xp.attnen = s.xp.attnen ∧
    (beginPublication s).xp.postQueue = s.xp.postQueue ∧ (beginPublication s).xp.faultCode = s.xp.faultCode ∧
    (beginPublication s).xp.faultIndex = s.xp.faultIndex ∧
    (beginPublication s).xp.refusedSlot = s.xp.refusedSlot ∧ (beginPublication s).xp.refusal = s.xp.refusal ∧
    (beginPublication s).xp.faultArea = s.xp.faultArea ∧ (beginPublication s).xp.faultAddr = s.xp.faultAddr ∧
    (beginPublication s).xp.stopRequested = s.xp.stopRequested ∧
    (beginPublication s).xp.stopStage = s.xp.stopStage ∧ (beginPublication s).xp.sheet = s.xp.sheet ∧
    (beginPublication s).xp.clampCount = s.xp.clampCount := by
  simp [beginPublication]

@[simp] theorem requestPublication_port (s : State) :
    (requestPublication s).xp.run = s.xp.run ∧ (requestPublication s).xp.xbase = s.xp.xbase ∧
    (requestPublication s).xp.attn = s.xp.attn ∧ (requestPublication s).xp.attnen = s.xp.attnen ∧
    (requestPublication s).xp.postQueue = s.xp.postQueue ∧
    (requestPublication s).xp.faultCode = s.xp.faultCode ∧
    (requestPublication s).xp.faultIndex = s.xp.faultIndex ∧
    (requestPublication s).xp.refusedSlot = s.xp.refusedSlot ∧
    (requestPublication s).xp.refusal = s.xp.refusal ∧ (requestPublication s).xp.faultArea = s.xp.faultArea ∧
    (requestPublication s).xp.faultAddr = s.xp.faultAddr ∧
    (requestPublication s).xp.stopRequested = s.xp.stopRequested ∧
    (requestPublication s).xp.stopStage = s.xp.stopStage ∧ (requestPublication s).xp.sheet = s.xp.sheet ∧
    (requestPublication s).xp.clampCount = s.xp.clampCount := by
  unfold requestPublication; split <;> simp

@[simp] theorem endPublication_port (s : State) :
    (endPublication s).xp.run = s.xp.run ∧ (endPublication s).xp.xbase = s.xp.xbase ∧
    (endPublication s).xp.attn = s.xp.attn ∧ (endPublication s).xp.attnen = s.xp.attnen ∧
    (endPublication s).xp.postQueue = s.xp.postQueue ∧ (endPublication s).xp.faultCode = s.xp.faultCode ∧
    (endPublication s).xp.faultIndex = s.xp.faultIndex ∧ (endPublication s).xp.refusedSlot = s.xp.refusedSlot ∧
    (endPublication s).xp.refusal = s.xp.refusal ∧ (endPublication s).xp.faultArea = s.xp.faultArea ∧
    (endPublication s).xp.faultAddr = s.xp.faultAddr ∧
    (endPublication s).xp.stopRequested = s.xp.stopRequested ∧
    (endPublication s).xp.stopStage = s.xp.stopStage ∧ (endPublication s).xp.sheet = s.xp.sheet ∧
    (endPublication s).xp.clampCount = s.xp.clampCount := by
  unfold endPublication; split <;> simp

@[simp] theorem publishCountWritten_port (s : State) :
    (publishCountWritten s).xp.run = s.xp.run ∧ (publishCountWritten s).xp.xbase = s.xp.xbase ∧
    (publishCountWritten s).xp.attn = s.xp.attn ∧ (publishCountWritten s).xp.attnen = s.xp.attnen ∧
    (publishCountWritten s).xp.postQueue = s.xp.postQueue ∧
    (publishCountWritten s).xp.faultCode = s.xp.faultCode ∧
    (publishCountWritten s).xp.faultIndex = s.xp.faultIndex ∧
    (publishCountWritten s).xp.refusedSlot = s.xp.refusedSlot ∧
    (publishCountWritten s).xp.refusal = s.xp.refusal ∧ (publishCountWritten s).xp.faultArea = s.xp.faultArea ∧
    (publishCountWritten s).xp.faultAddr = s.xp.faultAddr ∧
    (publishCountWritten s).xp.stopRequested = s.xp.stopRequested ∧
    (publishCountWritten s).xp.stopStage = s.xp.stopStage ∧ (publishCountWritten s).xp.sheet = s.xp.sheet ∧
    (publishCountWritten s).xp.clampCount = s.xp.clampCount := by
  unfold publishCountWritten
  split
  · simp
  · split <;> simp

@[simp] theorem publishContentWritten_port (s : State) :
    (publishContentWritten s).xp.run = s.xp.run ∧ (publishContentWritten s).xp.xbase = s.xp.xbase ∧
    (publishContentWritten s).xp.attn = s.xp.attn ∧ (publishContentWritten s).xp.attnen = s.xp.attnen ∧
    (publishContentWritten s).xp.postQueue = s.xp.postQueue ∧
    (publishContentWritten s).xp.faultCode = s.xp.faultCode ∧
    (publishContentWritten s).xp.faultIndex = s.xp.faultIndex ∧
    (publishContentWritten s).xp.refusedSlot = s.xp.refusedSlot ∧
    (publishContentWritten s).xp.refusal = s.xp.refusal ∧
    (publishContentWritten s).xp.faultArea = s.xp.faultArea ∧
    (publishContentWritten s).xp.faultAddr = s.xp.faultAddr ∧
    (publishContentWritten s).xp.stopRequested = s.xp.stopRequested ∧
    (publishContentWritten s).xp.stopStage = s.xp.stopStage ∧ (publishContentWritten s).xp.sheet = s.xp.sheet ∧
    (publishContentWritten s).xp.clampCount = s.xp.clampCount := by
  unfold publishContentWritten
  split
  · simp
  · split <;> simp

@[simp] theorem publicationFailed_port (s : State) :
    (publicationFailed s).xp.run = s.xp.run ∧ (publicationFailed s).xp.xbase = s.xp.xbase ∧
    (publicationFailed s).xp.attn = s.xp.attn ∧ (publicationFailed s).xp.attnen = s.xp.attnen ∧
    (publicationFailed s).xp.postQueue = s.xp.postQueue ∧ (publicationFailed s).xp.faultCode = s.xp.faultCode ∧
    (publicationFailed s).xp.faultIndex = s.xp.faultIndex ∧
    (publicationFailed s).xp.refusedSlot = s.xp.refusedSlot ∧ (publicationFailed s).xp.refusal = s.xp.refusal ∧
    (publicationFailed s).xp.faultArea = s.xp.faultArea ∧ (publicationFailed s).xp.faultAddr = s.xp.faultAddr ∧
    (publicationFailed s).xp.stopRequested = s.xp.stopRequested ∧
    (publicationFailed s).xp.stopStage = s.xp.stopStage ∧ (publicationFailed s).xp.sheet = s.xp.sheet ∧
    (publicationFailed s).xp.clampCount = s.xp.clampCount := by
  unfold publicationFailed
  split
  · simp
  · split <;> simp

@[simp] theorem tryOpenPage_port (s : State) :
    (tryOpenPage s).xp.run = s.xp.run ∧ (tryOpenPage s).xp.xbase = s.xp.xbase ∧
    (tryOpenPage s).xp.attn = s.xp.attn ∧ (tryOpenPage s).xp.attnen = s.xp.attnen ∧
    (tryOpenPage s).xp.postQueue = s.xp.postQueue ∧ (tryOpenPage s).xp.faultCode = s.xp.faultCode ∧
    (tryOpenPage s).xp.faultIndex = s.xp.faultIndex ∧ (tryOpenPage s).xp.refusedSlot = s.xp.refusedSlot ∧
    (tryOpenPage s).xp.refusal = s.xp.refusal ∧ (tryOpenPage s).xp.faultArea = s.xp.faultArea ∧
    (tryOpenPage s).xp.faultAddr = s.xp.faultAddr ∧ (tryOpenPage s).xp.stopRequested = s.xp.stopRequested ∧
    (tryOpenPage s).xp.stopStage = s.xp.stopStage ∧ (tryOpenPage s).xp.sheet = s.xp.sheet ∧
    (tryOpenPage s).xp.clampCount = s.xp.clampCount ∧ (tryOpenPage s).xp.publishCount = s.xp.publishCount ∧
    (tryOpenPage s).xp.publication = s.xp.publication ∧ (tryOpenPage s).xp.publishWanted = s.xp.publishWanted := by
  unfold tryOpenPage; split <;> simp

@[simp] theorem takeRequest_port (r : CueReq) (s : State) :
    (takeRequest r s).xp.run = s.xp.run ∧ (takeRequest r s).xp.xbase = s.xp.xbase ∧
    (takeRequest r s).xp.attn = s.xp.attn ∧ (takeRequest r s).xp.attnen = s.xp.attnen ∧
    (takeRequest r s).xp.postQueue = s.xp.postQueue ∧ (takeRequest r s).xp.faultCode = s.xp.faultCode ∧
    (takeRequest r s).xp.faultIndex = s.xp.faultIndex ∧ (takeRequest r s).xp.refusedSlot = s.xp.refusedSlot ∧
    (takeRequest r s).xp.refusal = s.xp.refusal ∧ (takeRequest r s).xp.faultArea = s.xp.faultArea ∧
    (takeRequest r s).xp.faultAddr = s.xp.faultAddr ∧ (takeRequest r s).xp.stopRequested = s.xp.stopRequested ∧
    (takeRequest r s).xp.stopStage = s.xp.stopStage ∧ (takeRequest r s).xp.sheet = s.xp.sheet ∧
    (takeRequest r s).xp.clampCount = s.xp.clampCount ∧ (takeRequest r s).xp.publishCount = s.xp.publishCount ∧
    (takeRequest r s).xp.publication = s.xp.publication ∧
    (takeRequest r s).xp.publishWanted = s.xp.publishWanted := by
  unfold takeRequest
  split
  · simp
  · split <;> simp

@[simp] theorem startTally_port (s : State) :
    (startTally s).xp.run = s.xp.run ∧ (startTally s).xp.xbase = s.xp.xbase ∧
    (startTally s).xp.attn = s.xp.attn ∧ (startTally s).xp.attnen = s.xp.attnen ∧
    (startTally s).xp.postQueue = s.xp.postQueue ∧ (startTally s).xp.faultCode = s.xp.faultCode ∧
    (startTally s).xp.faultIndex = s.xp.faultIndex ∧ (startTally s).xp.refusedSlot = s.xp.refusedSlot ∧
    (startTally s).xp.refusal = s.xp.refusal ∧ (startTally s).xp.faultArea = s.xp.faultArea ∧
    (startTally s).xp.faultAddr = s.xp.faultAddr ∧ (startTally s).xp.stopRequested = s.xp.stopRequested ∧
    (startTally s).xp.stopStage = s.xp.stopStage ∧ (startTally s).xp.sheet = s.xp.sheet ∧
    (startTally s).xp.clampCount = s.xp.clampCount ∧ (startTally s).xp.publishCount = s.xp.publishCount ∧
    (startTally s).xp.publication = s.xp.publication ∧ (startTally s).xp.publishWanted = s.xp.publishWanted := by
  unfold startTally; split <;> simp

@[simp] theorem addTally_port (c : Cue) (s : State) :
    (addTally c s).xp.run = s.xp.run ∧ (addTally c s).xp.xbase = s.xp.xbase ∧
    (addTally c s).xp.attn = s.xp.attn ∧ (addTally c s).xp.attnen = s.xp.attnen ∧
    (addTally c s).xp.postQueue = s.xp.postQueue ∧ (addTally c s).xp.faultCode = s.xp.faultCode ∧
    (addTally c s).xp.faultIndex = s.xp.faultIndex ∧ (addTally c s).xp.refusedSlot = s.xp.refusedSlot ∧
    (addTally c s).xp.refusal = s.xp.refusal ∧ (addTally c s).xp.faultArea = s.xp.faultArea ∧
    (addTally c s).xp.faultAddr = s.xp.faultAddr ∧ (addTally c s).xp.stopRequested = s.xp.stopRequested ∧
    (addTally c s).xp.stopStage = s.xp.stopStage ∧ (addTally c s).xp.sheet = s.xp.sheet ∧
    (addTally c s).xp.clampCount = s.xp.clampCount ∧ (addTally c s).xp.publishCount = s.xp.publishCount ∧
    (addTally c s).xp.publication = s.xp.publication ∧ (addTally c s).xp.publishWanted = s.xp.publishWanted := by
  unfold addTally
  split_ifs <;> simp

@[simp] theorem endTally_port (s : State) :
    (endTally s).xp.run = s.xp.run ∧ (endTally s).xp.xbase = s.xp.xbase ∧ (endTally s).xp.attn = s.xp.attn ∧
    (endTally s).xp.attnen = s.xp.attnen ∧ (endTally s).xp.postQueue = s.xp.postQueue ∧
    (endTally s).xp.faultCode = s.xp.faultCode ∧ (endTally s).xp.faultIndex = s.xp.faultIndex ∧
    (endTally s).xp.refusedSlot = s.xp.refusedSlot ∧ (endTally s).xp.refusal = s.xp.refusal ∧
    (endTally s).xp.faultArea = s.xp.faultArea ∧ (endTally s).xp.faultAddr = s.xp.faultAddr ∧
    (endTally s).xp.stopRequested = s.xp.stopRequested ∧ (endTally s).xp.stopStage = s.xp.stopStage ∧
    (endTally s).xp.sheet = s.xp.sheet ∧ (endTally s).xp.clampCount = s.xp.clampCount ∧
    (endTally s).xp.publishCount = s.xp.publishCount ∧ (endTally s).xp.publication = s.xp.publication ∧
    (endTally s).xp.publishWanted = s.xp.publishWanted := by
  simp [endTally]

@[simp] theorem tallyHalfRead_port (h : Nat) (s : State) :
    (tallyHalfRead h s).xp.run = s.xp.run ∧ (tallyHalfRead h s).xp.xbase = s.xp.xbase ∧
    (tallyHalfRead h s).xp.attn = s.xp.attn ∧ (tallyHalfRead h s).xp.attnen = s.xp.attnen ∧
    (tallyHalfRead h s).xp.postQueue = s.xp.postQueue ∧ (tallyHalfRead h s).xp.faultCode = s.xp.faultCode ∧
    (tallyHalfRead h s).xp.faultIndex = s.xp.faultIndex ∧
    (tallyHalfRead h s).xp.refusedSlot = s.xp.refusedSlot ∧ (tallyHalfRead h s).xp.refusal = s.xp.refusal ∧
    (tallyHalfRead h s).xp.faultArea = s.xp.faultArea ∧ (tallyHalfRead h s).xp.faultAddr = s.xp.faultAddr ∧
    (tallyHalfRead h s).xp.stopRequested = s.xp.stopRequested ∧
    (tallyHalfRead h s).xp.stopStage = s.xp.stopStage ∧ (tallyHalfRead h s).xp.sheet = s.xp.sheet ∧
    (tallyHalfRead h s).xp.clampCount = s.xp.clampCount ∧
    (tallyHalfRead h s).xp.publishCount = s.xp.publishCount ∧
    (tallyHalfRead h s).xp.publication = s.xp.publication ∧
    (tallyHalfRead h s).xp.publishWanted = s.xp.publishWanted := by
  unfold tallyHalfRead
  split
  · split <;> simp
  · simp

@[simp] theorem tallyWordRead_port (w : Nat) (s : State) :
    (tallyWordRead w s).xp.run = s.xp.run ∧ (tallyWordRead w s).xp.xbase = s.xp.xbase ∧
    (tallyWordRead w s).xp.attn = s.xp.attn ∧ (tallyWordRead w s).xp.attnen = s.xp.attnen ∧
    (tallyWordRead w s).xp.postQueue = s.xp.postQueue ∧ (tallyWordRead w s).xp.faultCode = s.xp.faultCode ∧
    (tallyWordRead w s).xp.faultIndex = s.xp.faultIndex ∧
    (tallyWordRead w s).xp.refusedSlot = s.xp.refusedSlot ∧ (tallyWordRead w s).xp.refusal = s.xp.refusal ∧
    (tallyWordRead w s).xp.faultArea = s.xp.faultArea ∧ (tallyWordRead w s).xp.faultAddr = s.xp.faultAddr ∧
    (tallyWordRead w s).xp.stopRequested = s.xp.stopRequested ∧
    (tallyWordRead w s).xp.stopStage = s.xp.stopStage ∧ (tallyWordRead w s).xp.sheet = s.xp.sheet ∧
    (tallyWordRead w s).xp.clampCount = s.xp.clampCount ∧
    (tallyWordRead w s).xp.publishCount = s.xp.publishCount ∧
    (tallyWordRead w s).xp.publication = s.xp.publication ∧
    (tallyWordRead w s).xp.publishWanted = s.xp.publishWanted := by
  unfold tallyWordRead; split <;> simp

@[simp] theorem tallyHalfWritten_port (s : State) :
    (tallyHalfWritten s).xp.run = s.xp.run ∧ (tallyHalfWritten s).xp.xbase = s.xp.xbase ∧
    (tallyHalfWritten s).xp.attn = s.xp.attn ∧ (tallyHalfWritten s).xp.attnen = s.xp.attnen ∧
    (tallyHalfWritten s).xp.postQueue = s.xp.postQueue ∧ (tallyHalfWritten s).xp.faultCode = s.xp.faultCode ∧
    (tallyHalfWritten s).xp.faultIndex = s.xp.faultIndex ∧
    (tallyHalfWritten s).xp.refusedSlot = s.xp.refusedSlot ∧ (tallyHalfWritten s).xp.refusal = s.xp.refusal ∧
    (tallyHalfWritten s).xp.faultArea = s.xp.faultArea ∧ (tallyHalfWritten s).xp.faultAddr = s.xp.faultAddr ∧
    (tallyHalfWritten s).xp.stopRequested = s.xp.stopRequested ∧
    (tallyHalfWritten s).xp.stopStage = s.xp.stopStage ∧ (tallyHalfWritten s).xp.sheet = s.xp.sheet ∧
    (tallyHalfWritten s).xp.clampCount = s.xp.clampCount ∧
    (tallyHalfWritten s).xp.publishCount = s.xp.publishCount ∧
    (tallyHalfWritten s).xp.publication = s.xp.publication ∧
    (tallyHalfWritten s).xp.publishWanted = s.xp.publishWanted := by
  unfold tallyHalfWritten; split <;> simp

@[simp] theorem tallyWordWritten_port (s : State) :
    (tallyWordWritten s).xp.run = s.xp.run ∧ (tallyWordWritten s).xp.xbase = s.xp.xbase ∧
    (tallyWordWritten s).xp.attn = s.xp.attn ∧ (tallyWordWritten s).xp.attnen = s.xp.attnen ∧
    (tallyWordWritten s).xp.postQueue = s.xp.postQueue ∧ (tallyWordWritten s).xp.faultCode = s.xp.faultCode ∧
    (tallyWordWritten s).xp.faultIndex = s.xp.faultIndex ∧
    (tallyWordWritten s).xp.refusedSlot = s.xp.refusedSlot ∧ (tallyWordWritten s).xp.refusal = s.xp.refusal ∧
    (tallyWordWritten s).xp.faultArea = s.xp.faultArea ∧ (tallyWordWritten s).xp.faultAddr = s.xp.faultAddr ∧
    (tallyWordWritten s).xp.stopRequested = s.xp.stopRequested ∧
    (tallyWordWritten s).xp.stopStage = s.xp.stopStage ∧ (tallyWordWritten s).xp.sheet = s.xp.sheet ∧
    (tallyWordWritten s).xp.clampCount = s.xp.clampCount ∧
    (tallyWordWritten s).xp.publishCount = s.xp.publishCount ∧
    (tallyWordWritten s).xp.publication = s.xp.publication ∧
    (tallyWordWritten s).xp.publishWanted = s.xp.publishWanted := by
  unfold tallyWordWritten; split <;> simp

@[simp] theorem tallyFailed_port (s : State) :
    (tallyFailed s).xp.run = s.xp.run ∧ (tallyFailed s).xp.xbase = s.xp.xbase ∧
    (tallyFailed s).xp.attn = s.xp.attn ∧ (tallyFailed s).xp.attnen = s.xp.attnen ∧
    (tallyFailed s).xp.postQueue = s.xp.postQueue ∧ (tallyFailed s).xp.faultCode = s.xp.faultCode ∧
    (tallyFailed s).xp.faultIndex = s.xp.faultIndex ∧ (tallyFailed s).xp.refusedSlot = s.xp.refusedSlot ∧
    (tallyFailed s).xp.refusal = s.xp.refusal ∧ (tallyFailed s).xp.faultArea = s.xp.faultArea ∧
    (tallyFailed s).xp.faultAddr = s.xp.faultAddr ∧ (tallyFailed s).xp.stopRequested = s.xp.stopRequested ∧
    (tallyFailed s).xp.stopStage = s.xp.stopStage ∧ (tallyFailed s).xp.sheet = s.xp.sheet ∧
    (tallyFailed s).xp.clampCount = s.xp.clampCount ∧ (tallyFailed s).xp.publishCount = s.xp.publishCount ∧
    (tallyFailed s).xp.publication = s.xp.publication ∧ (tallyFailed s).xp.publishWanted = s.xp.publishWanted := by
  simp [tallyFailed]

@[simp] theorem progressWrite_port (s : State) :
    (progressWrite s).xp.run = s.xp.run ∧ (progressWrite s).xp.xbase = s.xp.xbase ∧
    (progressWrite s).xp.attn = s.xp.attn ∧ (progressWrite s).xp.attnen = s.xp.attnen ∧
    (progressWrite s).xp.postQueue = s.xp.postQueue ∧ (progressWrite s).xp.faultCode = s.xp.faultCode ∧
    (progressWrite s).xp.faultIndex = s.xp.faultIndex ∧ (progressWrite s).xp.refusedSlot = s.xp.refusedSlot ∧
    (progressWrite s).xp.refusal = s.xp.refusal ∧ (progressWrite s).xp.faultArea = s.xp.faultArea ∧
    (progressWrite s).xp.faultAddr = s.xp.faultAddr ∧ (progressWrite s).xp.stopRequested = s.xp.stopRequested ∧
    (progressWrite s).xp.stopStage = s.xp.stopStage ∧ (progressWrite s).xp.sheet = s.xp.sheet ∧
    (progressWrite s).xp.clampCount = s.xp.clampCount ∧ (progressWrite s).xp.publishCount = s.xp.publishCount ∧
    (progressWrite s).xp.publication = s.xp.publication ∧
    (progressWrite s).xp.publishWanted = s.xp.publishWanted := by
  unfold progressWrite
  split
  · split <;> simp
  · simp

@[simp] theorem takeFirstEligible_port (s : State) :
    (takeFirstEligible s).xp.run = s.xp.run ∧ (takeFirstEligible s).xp.xbase = s.xp.xbase ∧
    (takeFirstEligible s).xp.attn = s.xp.attn ∧ (takeFirstEligible s).xp.attnen = s.xp.attnen ∧
    (takeFirstEligible s).xp.postQueue = s.xp.postQueue ∧ (takeFirstEligible s).xp.faultCode = s.xp.faultCode ∧
    (takeFirstEligible s).xp.faultIndex = s.xp.faultIndex ∧
    (takeFirstEligible s).xp.refusedSlot = s.xp.refusedSlot ∧ (takeFirstEligible s).xp.refusal = s.xp.refusal ∧
    (takeFirstEligible s).xp.faultArea = s.xp.faultArea ∧ (takeFirstEligible s).xp.faultAddr = s.xp.faultAddr ∧
    (takeFirstEligible s).xp.stopRequested = s.xp.stopRequested ∧
    (takeFirstEligible s).xp.stopStage = s.xp.stopStage ∧ (takeFirstEligible s).xp.sheet = s.xp.sheet ∧
    (takeFirstEligible s).xp.clampCount = s.xp.clampCount ∧
    (takeFirstEligible s).xp.publishCount = s.xp.publishCount ∧
    (takeFirstEligible s).xp.publication = s.xp.publication ∧
    (takeFirstEligible s).xp.publishWanted = s.xp.publishWanted := by
  unfold takeFirstEligible; split <;> simp

@[simp] theorem writerTest_port (s : State) :
    (writerTest s).xp.run = s.xp.run ∧ (writerTest s).xp.xbase = s.xp.xbase ∧
    (writerTest s).xp.attn = s.xp.attn ∧ (writerTest s).xp.attnen = s.xp.attnen ∧
    (writerTest s).xp.postQueue = s.xp.postQueue ∧ (writerTest s).xp.faultCode = s.xp.faultCode ∧
    (writerTest s).xp.faultIndex = s.xp.faultIndex ∧ (writerTest s).xp.refusedSlot = s.xp.refusedSlot ∧
    (writerTest s).xp.refusal = s.xp.refusal ∧ (writerTest s).xp.faultArea = s.xp.faultArea ∧
    (writerTest s).xp.faultAddr = s.xp.faultAddr ∧ (writerTest s).xp.stopRequested = s.xp.stopRequested ∧
    (writerTest s).xp.stopStage = s.xp.stopStage ∧ (writerTest s).xp.sheet = s.xp.sheet ∧
    (writerTest s).xp.clampCount = s.xp.clampCount ∧ (writerTest s).xp.publishCount = s.xp.publishCount ∧
    (writerTest s).xp.publication = s.xp.publication ∧ (writerTest s).xp.publishWanted = s.xp.publishWanted := by
  unfold writerTest; split <;> simp

@[simp] theorem beginClose_port (c : CloseCauses) (s : State) :
    (beginClose c s).xp.run = s.xp.run ∧ (beginClose c s).xp.xbase = s.xp.xbase ∧
    (beginClose c s).xp.attn = s.xp.attn ∧ (beginClose c s).xp.attnen = s.xp.attnen ∧
    (beginClose c s).xp.postQueue = s.xp.postQueue ∧ (beginClose c s).xp.faultCode = s.xp.faultCode ∧
    (beginClose c s).xp.faultIndex = s.xp.faultIndex ∧ (beginClose c s).xp.refusedSlot = s.xp.refusedSlot ∧
    (beginClose c s).xp.refusal = s.xp.refusal ∧ (beginClose c s).xp.faultArea = s.xp.faultArea ∧
    (beginClose c s).xp.faultAddr = s.xp.faultAddr ∧ (beginClose c s).xp.stopRequested = s.xp.stopRequested ∧
    (beginClose c s).xp.stopStage = s.xp.stopStage ∧ (beginClose c s).xp.sheet = s.xp.sheet ∧
    (beginClose c s).xp.clampCount = s.xp.clampCount ∧ (beginClose c s).xp.publishCount = s.xp.publishCount ∧
    (beginClose c s).xp.publication = s.xp.publication ∧ (beginClose c s).xp.publishWanted = s.xp.publishWanted := by
  unfold beginClose; split <;> simp

@[simp] theorem pageHeaderWritten_port (s : State) :
    (pageHeaderWritten s).xp.run = s.xp.run ∧ (pageHeaderWritten s).xp.xbase = s.xp.xbase ∧
    (pageHeaderWritten s).xp.attn = s.xp.attn ∧ (pageHeaderWritten s).xp.attnen = s.xp.attnen ∧
    (pageHeaderWritten s).xp.postQueue = s.xp.postQueue ∧ (pageHeaderWritten s).xp.faultCode = s.xp.faultCode ∧
    (pageHeaderWritten s).xp.faultIndex = s.xp.faultIndex ∧
    (pageHeaderWritten s).xp.refusedSlot = s.xp.refusedSlot ∧ (pageHeaderWritten s).xp.refusal = s.xp.refusal ∧
    (pageHeaderWritten s).xp.faultArea = s.xp.faultArea ∧ (pageHeaderWritten s).xp.faultAddr = s.xp.faultAddr ∧
    (pageHeaderWritten s).xp.stopRequested = s.xp.stopRequested ∧
    (pageHeaderWritten s).xp.stopStage = s.xp.stopStage ∧ (pageHeaderWritten s).xp.sheet = s.xp.sheet ∧
    (pageHeaderWritten s).xp.clampCount = s.xp.clampCount ∧
    (pageHeaderWritten s).xp.publishCount = s.xp.publishCount ∧
    (pageHeaderWritten s).xp.publication = s.xp.publication ∧
    (pageHeaderWritten s).xp.publishWanted = s.xp.publishWanted := by
  unfold pageHeaderWritten; split <;> simp

@[simp] theorem pageClosed_port (s : State) :
    (pageClosed s).xp.run = s.xp.run ∧ (pageClosed s).xp.xbase = s.xp.xbase ∧
    (pageClosed s).xp.attnen = s.xp.attnen ∧ (pageClosed s).xp.postQueue = s.xp.postQueue ∧
    (pageClosed s).xp.faultCode = s.xp.faultCode ∧ (pageClosed s).xp.faultIndex = s.xp.faultIndex ∧
    (pageClosed s).xp.refusedSlot = s.xp.refusedSlot ∧ (pageClosed s).xp.refusal = s.xp.refusal ∧
    (pageClosed s).xp.faultArea = s.xp.faultArea ∧ (pageClosed s).xp.faultAddr = s.xp.faultAddr ∧
    (pageClosed s).xp.stopRequested = s.xp.stopRequested ∧ (pageClosed s).xp.stopStage = s.xp.stopStage ∧
    (pageClosed s).xp.sheet = s.xp.sheet ∧ (pageClosed s).xp.clampCount = s.xp.clampCount ∧
    (pageClosed s).xp.publishCount = s.xp.publishCount ∧ (pageClosed s).xp.publication = s.xp.publication ∧
    (pageClosed s).xp.publishWanted = s.xp.publishWanted := by
  simp [pageClosed]

@[simp] theorem recordWritten_port (s : State) :
    (recordWritten s).xp.run = s.xp.run ∧ (recordWritten s).xp.xbase = s.xp.xbase ∧
    (recordWritten s).xp.attn = s.xp.attn ∧ (recordWritten s).xp.attnen = s.xp.attnen ∧
    (recordWritten s).xp.postQueue = s.xp.postQueue ∧ (recordWritten s).xp.faultCode = s.xp.faultCode ∧
    (recordWritten s).xp.faultIndex = s.xp.faultIndex ∧ (recordWritten s).xp.refusedSlot = s.xp.refusedSlot ∧
    (recordWritten s).xp.refusal = s.xp.refusal ∧ (recordWritten s).xp.faultArea = s.xp.faultArea ∧
    (recordWritten s).xp.faultAddr = s.xp.faultAddr ∧ (recordWritten s).xp.stopRequested = s.xp.stopRequested ∧
    (recordWritten s).xp.stopStage = s.xp.stopStage ∧ (recordWritten s).xp.sheet = s.xp.sheet ∧
    (recordWritten s).xp.clampCount = s.xp.clampCount ∧ (recordWritten s).xp.publishCount = s.xp.publishCount ∧
    (recordWritten s).xp.publication = s.xp.publication ∧
    (recordWritten s).xp.publishWanted = s.xp.publishWanted := by
  unfold recordWritten
  split
  · dsimp only
    split <;> simp
  · simp

@[simp] theorem holdExpired_port (s : State) :
    (holdExpired s).xp.run = s.xp.run ∧ (holdExpired s).xp.xbase = s.xp.xbase ∧
    (holdExpired s).xp.attn = s.xp.attn ∧ (holdExpired s).xp.attnen = s.xp.attnen ∧
    (holdExpired s).xp.postQueue = s.xp.postQueue ∧ (holdExpired s).xp.faultCode = s.xp.faultCode ∧
    (holdExpired s).xp.faultIndex = s.xp.faultIndex ∧ (holdExpired s).xp.refusedSlot = s.xp.refusedSlot ∧
    (holdExpired s).xp.refusal = s.xp.refusal ∧ (holdExpired s).xp.faultArea = s.xp.faultArea ∧
    (holdExpired s).xp.faultAddr = s.xp.faultAddr ∧ (holdExpired s).xp.stopRequested = s.xp.stopRequested ∧
    (holdExpired s).xp.stopStage = s.xp.stopStage ∧ (holdExpired s).xp.sheet = s.xp.sheet ∧
    (holdExpired s).xp.clampCount = s.xp.clampCount ∧ (holdExpired s).xp.publishCount = s.xp.publishCount ∧
    (holdExpired s).xp.publication = s.xp.publication ∧ (holdExpired s).xp.publishWanted = s.xp.publishWanted := by
  unfold holdExpired
  split
  · simp
  · split
    · split
      · split <;> simp
      · simp
    · simp

@[simp] theorem openAtCursor_port (s : State) :
    (openAtCursor s).xp.run = s.xp.run ∧ (openAtCursor s).xp.xbase = s.xp.xbase ∧
    (openAtCursor s).xp.attn = s.xp.attn ∧ (openAtCursor s).xp.attnen = s.xp.attnen ∧
    (openAtCursor s).xp.postQueue = s.xp.postQueue ∧ (openAtCursor s).xp.faultCode = s.xp.faultCode ∧
    (openAtCursor s).xp.faultIndex = s.xp.faultIndex ∧ (openAtCursor s).xp.refusedSlot = s.xp.refusedSlot ∧
    (openAtCursor s).xp.refusal = s.xp.refusal ∧ (openAtCursor s).xp.faultArea = s.xp.faultArea ∧
    (openAtCursor s).xp.faultAddr = s.xp.faultAddr ∧ (openAtCursor s).xp.stopRequested = s.xp.stopRequested ∧
    (openAtCursor s).xp.stopStage = s.xp.stopStage ∧ (openAtCursor s).xp.sheet = s.xp.sheet ∧
    (openAtCursor s).xp.clampCount = s.xp.clampCount ∧ (openAtCursor s).xp.publishCount = s.xp.publishCount ∧
    (openAtCursor s).xp.publication = s.xp.publication ∧ (openAtCursor s).xp.publishWanted = s.xp.publishWanted := by
  simp [openAtCursor]

@[simp] theorem stateWordReturned_port (w : Nat) (s : State) :
    (stateWordReturned w s).xp.run = s.xp.run ∧ (stateWordReturned w s).xp.xbase = s.xp.xbase ∧
    (stateWordReturned w s).xp.attn = s.xp.attn ∧ (stateWordReturned w s).xp.attnen = s.xp.attnen ∧
    (stateWordReturned w s).xp.postQueue = s.xp.postQueue ∧
    (stateWordReturned w s).xp.faultCode = s.xp.faultCode ∧
    (stateWordReturned w s).xp.faultIndex = s.xp.faultIndex ∧
    (stateWordReturned w s).xp.refusedSlot = s.xp.refusedSlot ∧
    (stateWordReturned w s).xp.refusal = s.xp.refusal ∧ (stateWordReturned w s).xp.faultArea = s.xp.faultArea ∧
    (stateWordReturned w s).xp.faultAddr = s.xp.faultAddr ∧
    (stateWordReturned w s).xp.stopRequested = s.xp.stopRequested ∧
    (stateWordReturned w s).xp.stopStage = s.xp.stopStage ∧ (stateWordReturned w s).xp.sheet = s.xp.sheet ∧
    (stateWordReturned w s).xp.clampCount = s.xp.clampCount ∧
    (stateWordReturned w s).xp.publishCount = s.xp.publishCount ∧
    (stateWordReturned w s).xp.publication = s.xp.publication ∧
    (stateWordReturned w s).xp.publishWanted = s.xp.publishWanted := by
  unfold stateWordReturned
  split
  · split <;> simp
  · simp

@[simp] theorem openWritten_port (s : State) :
    (openWritten s).xp.run = s.xp.run ∧ (openWritten s).xp.xbase = s.xp.xbase ∧
    (openWritten s).xp.attn = s.xp.attn ∧ (openWritten s).xp.attnen = s.xp.attnen ∧
    (openWritten s).xp.postQueue = s.xp.postQueue ∧ (openWritten s).xp.faultCode = s.xp.faultCode ∧
    (openWritten s).xp.faultIndex = s.xp.faultIndex ∧ (openWritten s).xp.refusedSlot = s.xp.refusedSlot ∧
    (openWritten s).xp.refusal = s.xp.refusal ∧ (openWritten s).xp.faultArea = s.xp.faultArea ∧
    (openWritten s).xp.faultAddr = s.xp.faultAddr ∧ (openWritten s).xp.stopRequested = s.xp.stopRequested ∧
    (openWritten s).xp.stopStage = s.xp.stopStage ∧ (openWritten s).xp.sheet = s.xp.sheet ∧
    (openWritten s).xp.clampCount = s.xp.clampCount ∧ (openWritten s).xp.publishCount = s.xp.publishCount ∧
    (openWritten s).xp.publication = s.xp.publication ∧ (openWritten s).xp.publishWanted = s.xp.publishWanted := by
  unfold openWritten; split <;> (try split) <;> simp

@[simp] theorem retryReached_port (s : State) :
    (retryReached s).xp.run = s.xp.run ∧ (retryReached s).xp.xbase = s.xp.xbase ∧
    (retryReached s).xp.attn = s.xp.attn ∧ (retryReached s).xp.attnen = s.xp.attnen ∧
    (retryReached s).xp.postQueue = s.xp.postQueue ∧ (retryReached s).xp.faultCode = s.xp.faultCode ∧
    (retryReached s).xp.faultIndex = s.xp.faultIndex ∧ (retryReached s).xp.refusedSlot = s.xp.refusedSlot ∧
    (retryReached s).xp.refusal = s.xp.refusal ∧ (retryReached s).xp.faultArea = s.xp.faultArea ∧
    (retryReached s).xp.faultAddr = s.xp.faultAddr ∧ (retryReached s).xp.stopRequested = s.xp.stopRequested ∧
    (retryReached s).xp.stopStage = s.xp.stopStage ∧ (retryReached s).xp.sheet = s.xp.sheet ∧
    (retryReached s).xp.clampCount = s.xp.clampCount ∧ (retryReached s).xp.publishCount = s.xp.publishCount ∧
    (retryReached s).xp.publication = s.xp.publication ∧ (retryReached s).xp.publishWanted = s.xp.publishWanted := by
  unfold retryReached
  split
  · split <;> simp
  · simp

@[simp] theorem pageWriteFault_port (s : State) :
    (pageWriteFault s).xp.run = s.xp.run ∧ (pageWriteFault s).xp.xbase = s.xp.xbase ∧
    (pageWriteFault s).xp.attn = s.xp.attn ∧ (pageWriteFault s).xp.attnen = s.xp.attnen ∧
    (pageWriteFault s).xp.postQueue = s.xp.postQueue ∧ (pageWriteFault s).xp.faultCode = s.xp.faultCode ∧
    (pageWriteFault s).xp.faultIndex = s.xp.faultIndex ∧ (pageWriteFault s).xp.refusedSlot = s.xp.refusedSlot ∧
    (pageWriteFault s).xp.refusal = s.xp.refusal ∧ (pageWriteFault s).xp.faultArea = s.xp.faultArea ∧
    (pageWriteFault s).xp.faultAddr = s.xp.faultAddr ∧
    (pageWriteFault s).xp.stopRequested = s.xp.stopRequested ∧
    (pageWriteFault s).xp.stopStage = s.xp.stopStage ∧ (pageWriteFault s).xp.sheet = s.xp.sheet ∧
    (pageWriteFault s).xp.clampCount = s.xp.clampCount ∧
    (pageWriteFault s).xp.publishCount = s.xp.publishCount ∧
    (pageWriteFault s).xp.publication = s.xp.publication ∧
    (pageWriteFault s).xp.publishWanted = s.xp.publishWanted := by
  unfold pageWriteFault; split <;> simp

@[simp] theorem framesReached_port (s : State) :
    (framesReached s).xp.run = s.xp.run ∧ (framesReached s).xp.xbase = s.xp.xbase ∧
    (framesReached s).xp.attn = s.xp.attn ∧ (framesReached s).xp.attnen = s.xp.attnen ∧
    (framesReached s).xp.postQueue = s.xp.postQueue ∧ (framesReached s).xp.faultCode = s.xp.faultCode ∧
    (framesReached s).xp.faultIndex = s.xp.faultIndex ∧ (framesReached s).xp.refusedSlot = s.xp.refusedSlot ∧
    (framesReached s).xp.refusal = s.xp.refusal ∧ (framesReached s).xp.faultArea = s.xp.faultArea ∧
    (framesReached s).xp.faultAddr = s.xp.faultAddr ∧ (framesReached s).xp.stopRequested = s.xp.stopRequested ∧
    (framesReached s).xp.stopStage = s.xp.stopStage ∧ (framesReached s).xp.sheet = s.xp.sheet ∧
    (framesReached s).xp.clampCount = s.xp.clampCount ∧ (framesReached s).xp.publishCount = s.xp.publishCount ∧
    (framesReached s).xp.publication = s.xp.publication ∧
    (framesReached s).xp.publishWanted = s.xp.publishWanted := by
  simp [framesReached]

@[simp] theorem startFrame_port (s : State) :
    (startFrame s).xp.run = s.xp.run ∧ (startFrame s).xp.xbase = s.xp.xbase ∧
    (startFrame s).xp.attn = s.xp.attn ∧ (startFrame s).xp.attnen = s.xp.attnen ∧
    (startFrame s).xp.postQueue = s.xp.postQueue ∧ (startFrame s).xp.faultCode = s.xp.faultCode ∧
    (startFrame s).xp.faultIndex = s.xp.faultIndex ∧ (startFrame s).xp.refusedSlot = s.xp.refusedSlot ∧
    (startFrame s).xp.refusal = s.xp.refusal ∧ (startFrame s).xp.faultArea = s.xp.faultArea ∧
    (startFrame s).xp.faultAddr = s.xp.faultAddr ∧ (startFrame s).xp.stopRequested = s.xp.stopRequested ∧
    (startFrame s).xp.stopStage = s.xp.stopStage ∧ (startFrame s).xp.sheet = s.xp.sheet ∧
    (startFrame s).xp.clampCount = s.xp.clampCount ∧ (startFrame s).xp.publishCount = s.xp.publishCount ∧
    (startFrame s).xp.publication = s.xp.publication ∧ (startFrame s).xp.publishWanted = s.xp.publishWanted := by
  simp [startFrame]

@[simp] theorem completeFrame_port (s : State) :
    (completeFrame s).xp.run = s.xp.run ∧ (completeFrame s).xp.xbase = s.xp.xbase ∧
    (completeFrame s).xp.attn = s.xp.attn ∧ (completeFrame s).xp.attnen = s.xp.attnen ∧
    (completeFrame s).xp.postQueue = s.xp.postQueue ∧ (completeFrame s).xp.faultCode = s.xp.faultCode ∧
    (completeFrame s).xp.faultIndex = s.xp.faultIndex ∧ (completeFrame s).xp.refusedSlot = s.xp.refusedSlot ∧
    (completeFrame s).xp.refusal = s.xp.refusal ∧ (completeFrame s).xp.faultArea = s.xp.faultArea ∧
    (completeFrame s).xp.faultAddr = s.xp.faultAddr ∧ (completeFrame s).xp.stopRequested = s.xp.stopRequested ∧
    (completeFrame s).xp.stopStage = s.xp.stopStage ∧ (completeFrame s).xp.sheet = s.xp.sheet ∧
    (completeFrame s).xp.clampCount = s.xp.clampCount := by
  simp [completeFrame]

@[simp] theorem progressFrame_port (s : State) :
    (progressFrame s).xp.run = s.xp.run ∧ (progressFrame s).xp.xbase = s.xp.xbase ∧
    (progressFrame s).xp.attn = s.xp.attn ∧ (progressFrame s).xp.attnen = s.xp.attnen ∧
    (progressFrame s).xp.postQueue = s.xp.postQueue ∧ (progressFrame s).xp.faultCode = s.xp.faultCode ∧
    (progressFrame s).xp.faultIndex = s.xp.faultIndex ∧ (progressFrame s).xp.refusedSlot = s.xp.refusedSlot ∧
    (progressFrame s).xp.refusal = s.xp.refusal ∧ (progressFrame s).xp.faultArea = s.xp.faultArea ∧
    (progressFrame s).xp.faultAddr = s.xp.faultAddr ∧ (progressFrame s).xp.stopRequested = s.xp.stopRequested ∧
    (progressFrame s).xp.stopStage = s.xp.stopStage ∧ (progressFrame s).xp.sheet = s.xp.sheet ∧
    (progressFrame s).xp.clampCount = s.xp.clampCount := by
  unfold progressFrame
  split
  · dsimp only
    split
    · split <;> simp
    · simp
  · simp

@[simp] theorem requestFrame_port (s : State) :
    (requestFrame s).xp.run = s.xp.run ∧ (requestFrame s).xp.xbase = s.xp.xbase ∧
    (requestFrame s).xp.attn = s.xp.attn ∧ (requestFrame s).xp.attnen = s.xp.attnen ∧
    (requestFrame s).xp.postQueue = s.xp.postQueue ∧ (requestFrame s).xp.faultCode = s.xp.faultCode ∧
    (requestFrame s).xp.faultIndex = s.xp.faultIndex ∧ (requestFrame s).xp.refusedSlot = s.xp.refusedSlot ∧
    (requestFrame s).xp.refusal = s.xp.refusal ∧ (requestFrame s).xp.faultArea = s.xp.faultArea ∧
    (requestFrame s).xp.faultAddr = s.xp.faultAddr ∧ (requestFrame s).xp.stopRequested = s.xp.stopRequested ∧
    (requestFrame s).xp.stopStage = s.xp.stopStage ∧ (requestFrame s).xp.sheet = s.xp.sheet ∧
    (requestFrame s).xp.clampCount = s.xp.clampCount := by
  unfold requestFrame
  split
  · split <;> simp
  · simp

end Sys2Proof.Machine
end

