-- ==== Sys2Proof/Laws/Blocks.lean ====
section
/-! SUPPORT. What each operation leaves alone: the Roster Unit, the Station Clock, the Platform Unit, the field lines, the
sheets, STOP, START and the ends of memory requests. -/

namespace Sys2Proof.Machine

@[simp] theorem setDep_frame (i : Nat) (f : Departure → Departure) (s : State) :
    (setDep i f s).pu = s.pu ∧ (setDep i f s).sc = s.sc ∧ (setDep i f s).wc = s.wc ∧ (setDep i f s).fu = s.fu ∧
    (setDep i f s).cq = s.cq ∧ (setDep i f s).xp = s.xp ∧ (setDep i f s).mem = s.mem ∧
    (setDep i f s).pending = s.pending ∧ (setDep i f s).freeCount = s.freeCount := by
  simp [setDep]

@[simp] theorem enterState_frame (st : DepState) (i : Nat) (s : State) :
    (enterState st i s).pu = s.pu ∧ (enterState st i s).sc = s.sc ∧ (enterState st i s).wc = s.wc ∧
    (enterState st i s).fu = s.fu ∧ (enterState st i s).cq = s.cq ∧ (enterState st i s).xp = s.xp ∧
    (enterState st i s).mem = s.mem ∧ (enterState st i s).pending = s.pending ∧
    (enterState st i s).freeCount = s.freeCount := by
  simp [enterState]

@[simp] theorem promote_frame (d : Departure) (s : State) :
    (promote d s).pu = s.pu ∧ (promote d s).sc = s.sc ∧ (promote d s).wc = s.wc ∧ (promote d s).fu = s.fu ∧
    (promote d s).mem = s.mem ∧ (promote d s).pending = s.pending ∧ (promote d s).freeCount = s.freeCount := by
  unfold promote
  dsimp only
  split <;> simp

@[simp] theorem promote_port (d : Departure) (s : State) :
    (promote d s).xp.run = s.xp.run ∧ (promote d s).xp.xbase = s.xp.xbase ∧ (promote d s).xp.attn = s.xp.attn ∧
    (promote d s).xp.attnen = s.xp.attnen ∧ (promote d s).xp.postQueue = s.xp.postQueue ∧
    (promote d s).xp.faultCode = s.xp.faultCode ∧ (promote d s).xp.faultIndex = s.xp.faultIndex ∧
    (promote d s).xp.refusedSlot = s.xp.refusedSlot ∧ (promote d s).xp.refusal = s.xp.refusal ∧
    (promote d s).xp.faultArea = s.xp.faultArea ∧ (promote d s).xp.faultAddr = s.xp.faultAddr ∧
    (promote d s).xp.stopRequested = s.xp.stopRequested ∧ (promote d s).xp.stopStage = s.xp.stopStage ∧
    (promote d s).xp.sheet = s.xp.sheet ∧ (promote d s).xp.clampCount = s.xp.clampCount ∧
    (promote d s).xp.publishCount = s.xp.publishCount ∧ (promote d s).xp.publication = s.xp.publication ∧
    (promote d s).xp.publishWanted = s.xp.publishWanted := by
  unfold promote
  dsimp only
  split <;> simp

@[simp] theorem beginClosing_frame (d : Departure) (s : State) :
    (beginClosing d s).pu = s.pu ∧ (beginClosing d s).sc = s.sc ∧ (beginClosing d s).wc = s.wc ∧
    (beginClosing d s).fu = s.fu ∧ (beginClosing d s).mem = s.mem ∧ (beginClosing d s).pending = s.pending ∧
    (beginClosing d s).freeCount = s.freeCount := by
  unfold beginClosing
  dsimp only
  split <;> simp

@[simp] theorem beginClosing_port (d : Departure) (s : State) :
    (beginClosing d s).xp.run = s.xp.run ∧ (beginClosing d s).xp.xbase = s.xp.xbase ∧
    (beginClosing d s).xp.attn = s.xp.attn ∧ (beginClosing d s).xp.attnen = s.xp.attnen ∧
    (beginClosing d s).xp.postQueue = s.xp.postQueue ∧ (beginClosing d s).xp.faultCode = s.xp.faultCode ∧
    (beginClosing d s).xp.faultIndex = s.xp.faultIndex ∧ (beginClosing d s).xp.refusedSlot = s.xp.refusedSlot ∧
    (beginClosing d s).xp.refusal = s.xp.refusal ∧ (beginClosing d s).xp.faultArea = s.xp.faultArea ∧
    (beginClosing d s).xp.faultAddr = s.xp.faultAddr ∧
    (beginClosing d s).xp.stopRequested = s.xp.stopRequested ∧
    (beginClosing d s).xp.stopStage = s.xp.stopStage ∧ (beginClosing d s).xp.sheet = s.xp.sheet ∧
    (beginClosing d s).xp.clampCount = s.xp.clampCount ∧
    (beginClosing d s).xp.publishCount = s.xp.publishCount ∧
    (beginClosing d s).xp.publication = s.xp.publication ∧
    (beginClosing d s).xp.publishWanted = s.xp.publishWanted := by
  unfold beginClosing
  dsimp only
  split <;> simp

@[simp] theorem depart_frame (i : Nat) (s : State) :
    (depart i s).pu = s.pu ∧ (depart i s).sc = s.sc ∧ (depart i s).wc = s.wc ∧ (depart i s).fu = s.fu ∧
    (depart i s).mem = s.mem ∧ (depart i s).pending = s.pending ∧ (depart i s).freeCount = s.freeCount := by
  simp [depart]

@[simp] theorem depart_port (i : Nat) (s : State) :
    (depart i s).xp.run = s.xp.run ∧ (depart i s).xp.xbase = s.xp.xbase ∧ (depart i s).xp.attn = s.xp.attn ∧
    (depart i s).xp.attnen = s.xp.attnen ∧ (depart i s).xp.postQueue = s.xp.postQueue ∧
    (depart i s).xp.faultCode = s.xp.faultCode ∧ (depart i s).xp.faultIndex = s.xp.faultIndex ∧
    (depart i s).xp.refusedSlot = s.xp.refusedSlot ∧ (depart i s).xp.refusal = s.xp.refusal ∧
    (depart i s).xp.faultArea = s.xp.faultArea ∧ (depart i s).xp.faultAddr = s.xp.faultAddr ∧
    (depart i s).xp.stopRequested = s.xp.stopRequested ∧ (depart i s).xp.stopStage = s.xp.stopStage ∧
    (depart i s).xp.sheet = s.xp.sheet ∧ (depart i s).xp.clampCount = s.xp.clampCount ∧
    (depart i s).xp.publishCount = s.xp.publishCount ∧ (depart i s).xp.publication = s.xp.publication ∧
    (depart i s).xp.publishWanted = s.xp.publishWanted := by
  simp [depart]

@[simp] theorem retire_frame (i : Nat) (s : State) :
    (retire i s).pu = s.pu ∧ (retire i s).sc = s.sc ∧ (retire i s).wc = s.wc ∧ (retire i s).fu = s.fu ∧
    (retire i s).mem = s.mem ∧ (retire i s).pending = s.pending ∧ (retire i s).freeCount = s.freeCount := by
  simp [retire]

@[simp] theorem retire_port (i : Nat) (s : State) :
    (retire i s).xp.run = s.xp.run ∧ (retire i s).xp.xbase = s.xp.xbase ∧ (retire i s).xp.attn = s.xp.attn ∧
    (retire i s).xp.attnen = s.xp.attnen ∧ (retire i s).xp.postQueue = s.xp.postQueue ∧
    (retire i s).xp.faultCode = s.xp.faultCode ∧ (retire i s).xp.faultIndex = s.xp.faultIndex ∧
    (retire i s).xp.refusedSlot = s.xp.refusedSlot ∧ (retire i s).xp.refusal = s.xp.refusal ∧
    (retire i s).xp.faultArea = s.xp.faultArea ∧ (retire i s).xp.faultAddr = s.xp.faultAddr ∧
    (retire i s).xp.stopRequested = s.xp.stopRequested ∧ (retire i s).xp.stopStage = s.xp.stopStage ∧
    (retire i s).xp.sheet = s.xp.sheet ∧ (retire i s).xp.clampCount = s.xp.clampCount ∧
    (retire i s).xp.publishCount = s.xp.publishCount ∧ (retire i s).xp.publication = s.xp.publication ∧
    (retire i s).xp.publishWanted = s.xp.publishWanted := by
  simp [retire]

/-- A transition of the state table changes the roster, the notices and the cues, and asks for accesses. -/
theorem transitionOf_cases {s : State} {d : Departure} {f : State → State} (h : transitionOf s d = some f) :
    f = retire d.id ∨ f = promote d ∨ f = depart d.id ∨ f = beginClosing d ∨ f = enterState .boarding d.id := by
  unfold transitionOf at h
  dsimp only at h
  split at h <;> (split_ifs at h <;> simp_all)

@[simp] theorem visit_frame (b : Bool) (i : Nat) (s : State) :
    (visit (s, b) i).1.pu = s.pu ∧ (visit (s, b) i).1.sc = s.sc ∧ (visit (s, b) i).1.wc = s.wc ∧
    (visit (s, b) i).1.fu = s.fu ∧ (visit (s, b) i).1.mem = s.mem ∧
    (visit (s, b) i).1.pending = s.pending ∧ (visit (s, b) i).1.freeCount = s.freeCount := by
  unfold visit
  dsimp only
  split
  · rename_i f h
    obtain ⟨d, _, hd⟩ := Option.bind_eq_some_iff.mp h
    rcases transitionOf_cases hd with rfl | rfl | rfl | rfl | rfl <;> simp
  · simp

@[simp] theorem visit_port (b : Bool) (i : Nat) (s : State) :
    (visit (s, b) i).1.xp.run = s.xp.run ∧ (visit (s, b) i).1.xp.xbase = s.xp.xbase ∧
    (visit (s, b) i).1.xp.attn = s.xp.attn ∧ (visit (s, b) i).1.xp.attnen = s.xp.attnen ∧
    (visit (s, b) i).1.xp.postQueue = s.xp.postQueue ∧ (visit (s, b) i).1.xp.faultCode = s.xp.faultCode ∧
    (visit (s, b) i).1.xp.faultIndex = s.xp.faultIndex ∧
    (visit (s, b) i).1.xp.refusedSlot = s.xp.refusedSlot ∧ (visit (s, b) i).1.xp.refusal = s.xp.refusal ∧
    (visit (s, b) i).1.xp.faultArea = s.xp.faultArea ∧ (visit (s, b) i).1.xp.faultAddr = s.xp.faultAddr ∧
    (visit (s, b) i).1.xp.stopRequested = s.xp.stopRequested ∧
    (visit (s, b) i).1.xp.stopStage = s.xp.stopStage ∧ (visit (s, b) i).1.xp.sheet = s.xp.sheet ∧
    (visit (s, b) i).1.xp.clampCount = s.xp.clampCount ∧
    (visit (s, b) i).1.xp.publishCount = s.xp.publishCount ∧
    (visit (s, b) i).1.xp.publication = s.xp.publication ∧
    (visit (s, b) i).1.xp.publishWanted = s.xp.publishWanted := by
  unfold visit
  dsimp only
  split
  · rename_i f h
    obtain ⟨d, _, hd⟩ := Option.bind_eq_some_iff.mp h
    rcases transitionOf_cases hd with rfl | rfl | rfl | rfl | rfl <;> simp
  · simp

@[simp] theorem evaluationPass_frame (s : State) :
    (evaluationPass s).1.pu = s.pu ∧ (evaluationPass s).1.sc = s.sc ∧ (evaluationPass s).1.wc = s.wc ∧
    (evaluationPass s).1.fu = s.fu ∧ (evaluationPass s).1.mem = s.mem ∧
    (evaluationPass s).1.pending = s.pending ∧ (evaluationPass s).1.freeCount = s.freeCount := by
  unfold evaluationPass
  have key : ∀ (l : List Nat) (a : State × Bool),
      (l.foldl visit a).1.pu = a.1.pu ∧
      (l.foldl visit a).1.sc = a.1.sc ∧
      (l.foldl visit a).1.wc = a.1.wc ∧
      (l.foldl visit a).1.fu = a.1.fu ∧
      (l.foldl visit a).1.mem = a.1.mem ∧
      (l.foldl visit a).1.pending = a.1.pending ∧
      (l.foldl visit a).1.freeCount = a.1.freeCount := by
    intro l
    induction l with
    | nil => intro a; simp
    | cons i l ih =>
      intro a
      have h := ih (visit a i)
      have v := visit_frame a.2 i a.1
      simp only [Prod.mk.eta] at v
      simp only [List.foldl_cons, h, v, and_self]
  exact key _ _

@[simp] theorem evaluationPass_port (s : State) :
    (evaluationPass s).1.xp.run = s.xp.run ∧ (evaluationPass s).1.xp.xbase = s.xp.xbase ∧
    (evaluationPass s).1.xp.attn = s.xp.attn ∧ (evaluationPass s).1.xp.attnen = s.xp.attnen ∧
    (evaluationPass s).1.xp.postQueue = s.xp.postQueue ∧
    (evaluationPass s).1.xp.faultCode = s.xp.faultCode ∧
    (evaluationPass s).1.xp.faultIndex = s.xp.faultIndex ∧
    (evaluationPass s).1.xp.refusedSlot = s.xp.refusedSlot ∧
    (evaluationPass s).1.xp.refusal = s.xp.refusal ∧ (evaluationPass s).1.xp.faultArea = s.xp.faultArea ∧
    (evaluationPass s).1.xp.faultAddr = s.xp.faultAddr ∧
    (evaluationPass s).1.xp.stopRequested = s.xp.stopRequested ∧
    (evaluationPass s).1.xp.stopStage = s.xp.stopStage ∧ (evaluationPass s).1.xp.sheet = s.xp.sheet ∧
    (evaluationPass s).1.xp.clampCount = s.xp.clampCount ∧
    (evaluationPass s).1.xp.publishCount = s.xp.publishCount ∧
    (evaluationPass s).1.xp.publication = s.xp.publication ∧
    (evaluationPass s).1.xp.publishWanted = s.xp.publishWanted := by
  unfold evaluationPass
  have key : ∀ (l : List Nat) (a : State × Bool),
      (l.foldl visit a).1.xp.run = a.1.xp.run ∧
      (l.foldl visit a).1.xp.xbase = a.1.xp.xbase ∧
      (l.foldl visit a).1.xp.attn = a.1.xp.attn ∧
      (l.foldl visit a).1.xp.attnen = a.1.xp.attnen ∧
      (l.foldl visit a).1.xp.postQueue = a.1.xp.postQueue ∧
      (l.foldl visit a).1.xp.faultCode = a.1.xp.faultCode ∧
      (l.foldl visit a).1.xp.faultIndex = a.1.xp.faultIndex ∧
      (l.foldl visit a).1.xp.refusedSlot = a.1.xp.refusedSlot ∧
      (l.foldl visit a).1.xp.refusal = a.1.xp.refusal ∧
      (l.foldl visit a).1.xp.faultArea = a.1.xp.faultArea ∧
      (l.foldl visit a).1.xp.faultAddr = a.1.xp.faultAddr ∧
      (l.foldl visit a).1.xp.stopRequested = a.1.xp.stopRequested ∧
      (l.foldl visit a).1.xp.stopStage = a.1.xp.stopStage ∧
      (l.foldl visit a).1.xp.sheet = a.1.xp.sheet ∧
      (l.foldl visit a).1.xp.clampCount = a.1.xp.clampCount ∧
      (l.foldl visit a).1.xp.publishCount = a.1.xp.publishCount ∧
      (l.foldl visit a).1.xp.publication = a.1.xp.publication ∧
      (l.foldl visit a).1.xp.publishWanted = a.1.xp.publishWanted := by
    intro l
    induction l with
    | nil => intro a; simp
    | cons i l ih =>
      intro a
      have h := ih (visit a i)
      have v := visit_port a.2 i a.1
      simp only [Prod.mk.eta] at v
      simp only [List.foldl_cons, h, v, and_self]
  exact key _ _

@[simp] theorem evaluate_frame (s : State) :
    (evaluate s).pu = s.pu ∧ (evaluate s).sc = s.sc ∧ (evaluate s).mem = s.mem ∧
    (evaluate s).pending = s.pending ∧ (evaluate s).freeCount = s.freeCount := by
  unfold evaluate
  split
  · split <;> simp
  · simp

@[simp] theorem evaluate_port (s : State) :
    (evaluate s).xp.run = s.xp.run ∧ (evaluate s).xp.xbase = s.xp.xbase ∧ (evaluate s).xp.attn = s.xp.attn ∧
    (evaluate s).xp.attnen = s.xp.attnen ∧ (evaluate s).xp.postQueue = s.xp.postQueue ∧
    (evaluate s).xp.faultCode = s.xp.faultCode ∧ (evaluate s).xp.faultIndex = s.xp.faultIndex ∧
    (evaluate s).xp.refusedSlot = s.xp.refusedSlot ∧ (evaluate s).xp.refusal = s.xp.refusal ∧
    (evaluate s).xp.faultArea = s.xp.faultArea ∧ (evaluate s).xp.faultAddr = s.xp.faultAddr ∧
    (evaluate s).xp.stopRequested = s.xp.stopRequested ∧ (evaluate s).xp.stopStage = s.xp.stopStage ∧
    (evaluate s).xp.sheet = s.xp.sheet ∧ (evaluate s).xp.clampCount = s.xp.clampCount := by
  unfold evaluate
  split
  · split <;> simp
  · simp

@[simp] theorem absentEffect_frame (p : Nat) (s : State) :
    (absentEffect p s).pu = s.pu ∧ (absentEffect p s).sc = s.sc ∧ (absentEffect p s).wc = s.wc ∧
    (absentEffect p s).fu = s.fu ∧ (absentEffect p s).mem = s.mem ∧ (absentEffect p s).pending = s.pending ∧
    (absentEffect p s).freeCount = s.freeCount := by
  unfold absentEffect
  split
  · simp
  · split <;> simp

@[simp] theorem absentEffect_port (p : Nat) (s : State) :
    (absentEffect p s).xp.run = s.xp.run ∧ (absentEffect p s).xp.xbase = s.xp.xbase ∧
    (absentEffect p s).xp.attn = s.xp.attn ∧ (absentEffect p s).xp.attnen = s.xp.attnen ∧
    (absentEffect p s).xp.postQueue = s.xp.postQueue ∧ (absentEffect p s).xp.faultCode = s.xp.faultCode ∧
    (absentEffect p s).xp.faultIndex = s.xp.faultIndex ∧ (absentEffect p s).xp.refusedSlot = s.xp.refusedSlot ∧
    (absentEffect p s).xp.refusal = s.xp.refusal ∧ (absentEffect p s).xp.faultArea = s.xp.faultArea ∧
    (absentEffect p s).xp.faultAddr = s.xp.faultAddr ∧
    (absentEffect p s).xp.stopRequested = s.xp.stopRequested ∧
    (absentEffect p s).xp.stopStage = s.xp.stopStage ∧ (absentEffect p s).xp.sheet = s.xp.sheet ∧
    (absentEffect p s).xp.clampCount = s.xp.clampCount ∧
    (absentEffect p s).xp.publishCount = s.xp.publishCount ∧
    (absentEffect p s).xp.publication = s.xp.publication ∧
    (absentEffect p s).xp.publishWanted = s.xp.publishWanted := by
  unfold absentEffect
  split
  · simp
  · split <;> simp

@[simp] theorem absentEdge_frame (p : Nat) (s : State) :
    (absentEdge p s).pu = s.pu ∧ (absentEdge p s).sc = s.sc ∧ (absentEdge p s).mem = s.mem ∧
    (absentEdge p s).pending = s.pending ∧ (absentEdge p s).freeCount = s.freeCount := by
  simp [absentEdge]

@[simp] theorem absentEdge_port (p : Nat) (s : State) :
    (absentEdge p s).xp.run = s.xp.run ∧ (absentEdge p s).xp.xbase = s.xp.xbase ∧
    (absentEdge p s).xp.attn = s.xp.attn ∧ (absentEdge p s).xp.attnen = s.xp.attnen ∧
    (absentEdge p s).xp.postQueue = s.xp.postQueue ∧ (absentEdge p s).xp.faultCode = s.xp.faultCode ∧
    (absentEdge p s).xp.faultIndex = s.xp.faultIndex ∧ (absentEdge p s).xp.refusedSlot = s.xp.refusedSlot ∧
    (absentEdge p s).xp.refusal = s.xp.refusal ∧ (absentEdge p s).xp.faultArea = s.xp.faultArea ∧
    (absentEdge p s).xp.faultAddr = s.xp.faultAddr ∧ (absentEdge p s).xp.stopRequested = s.xp.stopRequested ∧
    (absentEdge p s).xp.stopStage = s.xp.stopStage ∧ (absentEdge p s).xp.sheet = s.xp.sheet ∧
    (absentEdge p s).xp.clampCount = s.xp.clampCount := by
  simp [absentEdge]

@[simp] theorem carryOne_frame (i : Nat) (s : State) :
    (carryOne s i).pu = s.pu ∧ (carryOne s i).sc = s.sc ∧ (carryOne s i).wc = s.wc ∧ (carryOne s i).fu = s.fu ∧
    (carryOne s i).mem = s.mem ∧ (carryOne s i).pending = s.pending ∧ (carryOne s i).freeCount = s.freeCount := by
  unfold carryOne
  split
  · simp
  · split <;> simp

@[simp] theorem carryOne_port (i : Nat) (s : State) :
    (carryOne s i).xp.run = s.xp.run ∧ (carryOne s i).xp.xbase = s.xp.xbase ∧
    (carryOne s i).xp.attn = s.xp.attn ∧ (carryOne s i).xp.attnen = s.xp.attnen ∧
    (carryOne s i).xp.postQueue = s.xp.postQueue ∧ (carryOne s i).xp.faultCode = s.xp.faultCode ∧
    (carryOne s i).xp.faultIndex = s.xp.faultIndex ∧ (carryOne s i).xp.refusedSlot = s.xp.refusedSlot ∧
    (carryOne s i).xp.refusal = s.xp.refusal ∧ (carryOne s i).xp.faultArea = s.xp.faultArea ∧
    (carryOne s i).xp.faultAddr = s.xp.faultAddr ∧ (carryOne s i).xp.stopRequested = s.xp.stopRequested ∧
    (carryOne s i).xp.stopStage = s.xp.stopStage ∧ (carryOne s i).xp.sheet = s.xp.sheet ∧
    (carryOne s i).xp.clampCount = s.xp.clampCount ∧ (carryOne s i).xp.publishCount = s.xp.publishCount ∧
    (carryOne s i).xp.publication = s.xp.publication ∧ (carryOne s i).xp.publishWanted = s.xp.publishWanted := by
  unfold carryOne
  split
  · simp
  · split <;> simp

@[simp] theorem carry_frame (s : State) :
    (carry s).pu = s.pu ∧ (carry s).sc = s.sc ∧ (carry s).wc = s.wc ∧ (carry s).fu = s.fu ∧
    (carry s).mem = s.mem ∧ (carry s).pending = s.pending ∧ (carry s).freeCount = s.freeCount := by
  unfold carry
  refine ⟨?_, ?_, ?_, ?_, ?_, ?_, ?_⟩ <;> exact foldl_view _ _ (fun s a => by simp) _ _

@[simp] theorem carry_port (s : State) :
    (carry s).xp.run = s.xp.run ∧ (carry s).xp.xbase = s.xp.xbase ∧ (carry s).xp.attn = s.xp.attn ∧
    (carry s).xp.attnen = s.xp.attnen ∧ (carry s).xp.postQueue = s.xp.postQueue ∧
    (carry s).xp.faultCode = s.xp.faultCode ∧ (carry s).xp.faultIndex = s.xp.faultIndex ∧
    (carry s).xp.refusedSlot = s.xp.refusedSlot ∧ (carry s).xp.refusal = s.xp.refusal ∧
    (carry s).xp.faultArea = s.xp.faultArea ∧ (carry s).xp.faultAddr = s.xp.faultAddr ∧
    (carry s).xp.stopRequested = s.xp.stopRequested ∧ (carry s).xp.stopStage = s.xp.stopStage ∧
    (carry s).xp.sheet = s.xp.sheet ∧ (carry s).xp.clampCount = s.xp.clampCount ∧
    (carry s).xp.publishCount = s.xp.publishCount ∧ (carry s).xp.publication = s.xp.publication ∧
    (carry s).xp.publishWanted = s.xp.publishWanted := by
  unfold carry
  exact ⟨foldl_view (fun t => t.xp.run) _ (fun s a => by simp) _ _,
    foldl_view (fun t => t.xp.xbase) _ (fun s a => by simp) _ _,
    foldl_view (fun t => t.xp.attn) _ (fun s a => by simp) _ _,
    foldl_view (fun t => t.xp.attnen) _ (fun s a => by simp) _ _,
    foldl_view (fun t => t.xp.postQueue) _ (fun s a => by simp) _ _,
    foldl_view (fun t => t.xp.faultCode) _ (fun s a => by simp) _ _,
    foldl_view (fun t => t.xp.faultIndex) _ (fun s a => by simp) _ _,
    foldl_view (fun t => t.xp.refusedSlot) _ (fun s a => by simp) _ _,
    foldl_view (fun t => t.xp.refusal) _ (fun s a => by simp) _ _,
    foldl_view (fun t => t.xp.faultArea) _ (fun s a => by simp) _ _,
    foldl_view (fun t => t.xp.faultAddr) _ (fun s a => by simp) _ _,
    foldl_view (fun t => t.xp.stopRequested) _ (fun s a => by simp) _ _,
    foldl_view (fun t => t.xp.stopStage) _ (fun s a => by simp) _ _,
    foldl_view (fun t => t.xp.sheet) _ (fun s a => by simp) _ _,
    foldl_view (fun t => t.xp.clampCount) _ (fun s a => by simp) _ _,
    foldl_view (fun t => t.xp.publishCount) _ (fun s a => by simp) _ _,
    foldl_view (fun t => t.xp.publication) _ (fun s a => by simp) _ _,
    foldl_view (fun t => t.xp.publishWanted) _ (fun s a => by simp) _ _⟩

@[simp] theorem endFlashes_frame (s : State) :
    (endFlashes s).pu = s.pu ∧ (endFlashes s).sc = s.sc ∧ (endFlashes s).mem = s.mem ∧
    (endFlashes s).pending = s.pending ∧ (endFlashes s).freeCount = s.freeCount := by
  unfold endFlashes
  split <;> simp

@[simp] theorem endFlashes_port (s : State) :
    (endFlashes s).xp.run = s.xp.run ∧ (endFlashes s).xp.xbase = s.xp.xbase ∧
    (endFlashes s).xp.attn = s.xp.attn ∧ (endFlashes s).xp.attnen = s.xp.attnen ∧
    (endFlashes s).xp.postQueue = s.xp.postQueue ∧ (endFlashes s).xp.faultCode = s.xp.faultCode ∧
    (endFlashes s).xp.faultIndex = s.xp.faultIndex ∧ (endFlashes s).xp.refusedSlot = s.xp.refusedSlot ∧
    (endFlashes s).xp.refusal = s.xp.refusal ∧ (endFlashes s).xp.faultArea = s.xp.faultArea ∧
    (endFlashes s).xp.faultAddr = s.xp.faultAddr ∧ (endFlashes s).xp.stopRequested = s.xp.stopRequested ∧
    (endFlashes s).xp.stopStage = s.xp.stopStage ∧ (endFlashes s).xp.sheet = s.xp.sheet ∧
    (endFlashes s).xp.clampCount = s.xp.clampCount := by
  unfold endFlashes
  split <;> simp

@[simp] theorem expireNotices_frame (s : State) :
    (expireNotices s).pu = s.pu ∧ (expireNotices s).sc = s.sc ∧ (expireNotices s).mem = s.mem ∧
    (expireNotices s).pending = s.pending ∧ (expireNotices s).freeCount = s.freeCount := by
  unfold expireNotices
  split <;> simp

@[simp] theorem expireNotices_port (s : State) :
    (expireNotices s).xp.run = s.xp.run ∧ (expireNotices s).xp.xbase = s.xp.xbase ∧
    (expireNotices s).xp.attn = s.xp.attn ∧ (expireNotices s).xp.attnen = s.xp.attnen ∧
    (expireNotices s).xp.postQueue = s.xp.postQueue ∧ (expireNotices s).xp.faultCode = s.xp.faultCode ∧
    (expireNotices s).xp.faultIndex = s.xp.faultIndex ∧ (expireNotices s).xp.refusedSlot = s.xp.refusedSlot ∧
    (expireNotices s).xp.refusal = s.xp.refusal ∧ (expireNotices s).xp.faultArea = s.xp.faultArea ∧
    (expireNotices s).xp.faultAddr = s.xp.faultAddr ∧ (expireNotices s).xp.stopRequested = s.xp.stopRequested ∧
    (expireNotices s).xp.stopStage = s.xp.stopStage ∧ (expireNotices s).xp.sheet = s.xp.sheet ∧
    (expireNotices s).xp.clampCount = s.xp.clampCount := by
  unfold expireNotices
  split <;> simp

@[simp] theorem speakNotice_frame (i : Nat) (s : State) :
    (speakNotice s i).pu = s.pu ∧ (speakNotice s i).sc = s.sc ∧ (speakNotice s i).wc = s.wc ∧
    (speakNotice s i).fu = s.fu ∧ (speakNotice s i).mem = s.mem ∧ (speakNotice s i).pending = s.pending ∧
    (speakNotice s i).freeCount = s.freeCount := by
  simp [speakNotice]

@[simp] theorem speakNotice_port (i : Nat) (s : State) :
    (speakNotice s i).xp.run = s.xp.run ∧ (speakNotice s i).xp.xbase = s.xp.xbase ∧
    (speakNotice s i).xp.attn = s.xp.attn ∧ (speakNotice s i).xp.attnen = s.xp.attnen ∧
    (speakNotice s i).xp.postQueue = s.xp.postQueue ∧ (speakNotice s i).xp.faultCode = s.xp.faultCode ∧
    (speakNotice s i).xp.faultIndex = s.xp.faultIndex ∧ (speakNotice s i).xp.refusedSlot = s.xp.refusedSlot ∧
    (speakNotice s i).xp.refusal = s.xp.refusal ∧ (speakNotice s i).xp.faultArea = s.xp.faultArea ∧
    (speakNotice s i).xp.faultAddr = s.xp.faultAddr ∧ (speakNotice s i).xp.stopRequested = s.xp.stopRequested ∧
    (speakNotice s i).xp.stopStage = s.xp.stopStage ∧ (speakNotice s i).xp.sheet = s.xp.sheet ∧
    (speakNotice s i).xp.clampCount = s.xp.clampCount ∧ (speakNotice s i).xp.publishCount = s.xp.publishCount ∧
    (speakNotice s i).xp.publication = s.xp.publication ∧
    (speakNotice s i).xp.publishWanted = s.xp.publishWanted := by
  simp [speakNotice]

@[simp] theorem repeatNotices_frame (s : State) :
    (repeatNotices s).pu = s.pu ∧ (repeatNotices s).sc = s.sc ∧ (repeatNotices s).wc = s.wc ∧
    (repeatNotices s).fu = s.fu ∧ (repeatNotices s).mem = s.mem ∧ (repeatNotices s).pending = s.pending ∧
    (repeatNotices s).freeCount = s.freeCount := by
  unfold repeatNotices
  split
  · refine ⟨?_, ?_, ?_, ?_, ?_, ?_, ?_⟩ <;> exact foldl_view _ _ (fun s a => by simp) _ _
  · simp

@[simp] theorem repeatNotices_port (s : State) :
    (repeatNotices s).xp.run = s.xp.run ∧ (repeatNotices s).xp.xbase = s.xp.xbase ∧
    (repeatNotices s).xp.attn = s.xp.attn ∧ (repeatNotices s).xp.attnen = s.xp.attnen ∧
    (repeatNotices s).xp.postQueue = s.xp.postQueue ∧ (repeatNotices s).xp.faultCode = s.xp.faultCode ∧
    (repeatNotices s).xp.faultIndex = s.xp.faultIndex ∧ (repeatNotices s).xp.refusedSlot = s.xp.refusedSlot ∧
    (repeatNotices s).xp.refusal = s.xp.refusal ∧ (repeatNotices s).xp.faultArea = s.xp.faultArea ∧
    (repeatNotices s).xp.faultAddr = s.xp.faultAddr ∧ (repeatNotices s).xp.stopRequested = s.xp.stopRequested ∧
    (repeatNotices s).xp.stopStage = s.xp.stopStage ∧ (repeatNotices s).xp.sheet = s.xp.sheet ∧
    (repeatNotices s).xp.clampCount = s.xp.clampCount ∧ (repeatNotices s).xp.publishCount = s.xp.publishCount ∧
    (repeatNotices s).xp.publication = s.xp.publication ∧
    (repeatNotices s).xp.publishWanted = s.xp.publishWanted := by
  unfold repeatNotices
  split
  · exact ⟨foldl_view (fun t => t.xp.run) _ (fun s a => by simp) _ _,
      foldl_view (fun t => t.xp.xbase) _ (fun s a => by simp) _ _,
      foldl_view (fun t => t.xp.attn) _ (fun s a => by simp) _ _,
      foldl_view (fun t => t.xp.attnen) _ (fun s a => by simp) _ _,
      foldl_view (fun t => t.xp.postQueue) _ (fun s a => by simp) _ _,
      foldl_view (fun t => t.xp.faultCode) _ (fun s a => by simp) _ _,
      foldl_view (fun t => t.xp.faultIndex) _ (fun s a => by simp) _ _,
      foldl_view (fun t => t.xp.refusedSlot) _ (fun s a => by simp) _ _,
      foldl_view (fun t => t.xp.refusal) _ (fun s a => by simp) _ _,
      foldl_view (fun t => t.xp.faultArea) _ (fun s a => by simp) _ _,
      foldl_view (fun t => t.xp.faultAddr) _ (fun s a => by simp) _ _,
      foldl_view (fun t => t.xp.stopRequested) _ (fun s a => by simp) _ _,
      foldl_view (fun t => t.xp.stopStage) _ (fun s a => by simp) _ _,
      foldl_view (fun t => t.xp.sheet) _ (fun s a => by simp) _ _,
      foldl_view (fun t => t.xp.clampCount) _ (fun s a => by simp) _ _,
      foldl_view (fun t => t.xp.publishCount) _ (fun s a => by simp) _ _,
      foldl_view (fun t => t.xp.publication) _ (fun s a => by simp) _ _,
      foldl_view (fun t => t.xp.publishWanted) _ (fun s a => by simp) _ _⟩
  · simp

@[simp] theorem clockReport_frame (k : ClockSub) (o : Option Int) (s : State) :
    (clockReport k o s).ru = s.ru ∧ (clockReport k o s).pu = s.pu ∧ (clockReport k o s).sc = s.sc ∧
    (clockReport k o s).wc = s.wc ∧ (clockReport k o s).fu = s.fu ∧ (clockReport k o s).mem = s.mem ∧
    (clockReport k o s).pending = s.pending ∧ (clockReport k o s).freeCount = s.freeCount := by
  simp [clockReport]

@[simp] theorem clockReport_port (k : ClockSub) (o : Option Int) (s : State) :
    (clockReport k o s).xp.run = s.xp.run ∧ (clockReport k o s).xp.xbase = s.xp.xbase ∧
    (clockReport k o s).xp.attnen = s.xp.attnen ∧ (clockReport k o s).xp.postQueue = s.xp.postQueue ∧
    (clockReport k o s).xp.faultCode = s.xp.faultCode ∧ (clockReport k o s).xp.faultIndex = s.xp.faultIndex ∧
    (clockReport k o s).xp.refusedSlot = s.xp.refusedSlot ∧ (clockReport k o s).xp.refusal = s.xp.refusal ∧
    (clockReport k o s).xp.faultArea = s.xp.faultArea ∧ (clockReport k o s).xp.faultAddr = s.xp.faultAddr ∧
    (clockReport k o s).xp.stopRequested = s.xp.stopRequested ∧
    (clockReport k o s).xp.stopStage = s.xp.stopStage ∧ (clockReport k o s).xp.sheet = s.xp.sheet ∧
    (clockReport k o s).xp.clampCount = s.xp.clampCount ∧
    (clockReport k o s).xp.publishCount = s.xp.publishCount ∧
    (clockReport k o s).xp.publication = s.xp.publication ∧
    (clockReport k o s).xp.publishWanted = s.xp.publishWanted := by
  simp [clockReport]

@[simp] theorem takeStationSecond_frame (s : State) :
    (takeStationSecond s).pu = s.pu ∧ (takeStationSecond s).sc = s.sc ∧ (takeStationSecond s).mem = s.mem ∧
    (takeStationSecond s).pending = s.pending ∧ (takeStationSecond s).freeCount = s.freeCount := by
  unfold takeStationSecond
  dsimp only
  split <;> simp

@[simp] theorem takeStationSecond_port (s : State) :
    (takeStationSecond s).xp.run = s.xp.run ∧ (takeStationSecond s).xp.xbase = s.xp.xbase ∧
    (takeStationSecond s).xp.attn = s.xp.attn ∧ (takeStationSecond s).xp.attnen = s.xp.attnen ∧
    (takeStationSecond s).xp.postQueue = s.xp.postQueue ∧ (takeStationSecond s).xp.faultCode = s.xp.faultCode ∧
    (takeStationSecond s).xp.faultIndex = s.xp.faultIndex ∧
    (takeStationSecond s).xp.refusedSlot = s.xp.refusedSlot ∧ (takeStationSecond s).xp.refusal = s.xp.refusal ∧
    (takeStationSecond s).xp.faultArea = s.xp.faultArea ∧ (takeStationSecond s).xp.faultAddr = s.xp.faultAddr ∧
    (takeStationSecond s).xp.stopRequested = s.xp.stopRequested ∧
    (takeStationSecond s).xp.stopStage = s.xp.stopStage ∧ (takeStationSecond s).xp.sheet = s.xp.sheet ∧
    (takeStationSecond s).xp.clampCount = s.xp.clampCount := by
  unfold takeStationSecond
  dsimp only
  split <;> simp

@[simp] theorem takeStationMinute_frame (s : State) :
    (takeStationMinute s).ru = s.ru ∧ (takeStationMinute s).pu = s.pu ∧ (takeStationMinute s).sc = s.sc ∧
    (takeStationMinute s).mem = s.mem ∧ (takeStationMinute s).pending = s.pending ∧
    (takeStationMinute s).freeCount = s.freeCount := by
  simp [takeStationMinute]

@[simp] theorem takeStationMinute_port (s : State) :
    (takeStationMinute s).xp.run = s.xp.run ∧ (takeStationMinute s).xp.xbase = s.xp.xbase ∧
    (takeStationMinute s).xp.attn = s.xp.attn ∧ (takeStationMinute s).xp.attnen = s.xp.attnen ∧
    (takeStationMinute s).xp.postQueue = s.xp.postQueue ∧ (takeStationMinute s).xp.faultCode = s.xp.faultCode ∧
    (takeStationMinute s).xp.faultIndex = s.xp.faultIndex ∧
    (takeStationMinute s).xp.refusedSlot = s.xp.refusedSlot ∧ (takeStationMinute s).xp.refusal = s.xp.refusal ∧
    (takeStationMinute s).xp.faultArea = s.xp.faultArea ∧ (takeStationMinute s).xp.faultAddr = s.xp.faultAddr ∧
    (takeStationMinute s).xp.stopRequested = s.xp.stopRequested ∧
    (takeStationMinute s).xp.stopStage = s.xp.stopStage ∧ (takeStationMinute s).xp.sheet = s.xp.sheet ∧
    (takeStationMinute s).xp.clampCount = s.xp.clampCount := by
  simp [takeStationMinute]

@[simp] theorem rollOver_frame (t : Nat) (s : State) :
    (rollOver t s).pu = s.pu ∧ (rollOver t s).wc = s.wc ∧ (rollOver t s).fu = s.fu ∧
    (rollOver t s).mem = s.mem ∧ (rollOver t s).pending = s.pending ∧ (rollOver t s).freeCount = s.freeCount := by
  simp [rollOver]

@[simp] theorem rollOver_port (t : Nat) (s : State) :
    (rollOver t s).xp.run = s.xp.run ∧ (rollOver t s).xp.xbase = s.xp.xbase ∧
    (rollOver t s).xp.attnen = s.xp.attnen ∧ (rollOver t s).xp.postQueue = s.xp.postQueue ∧
    (rollOver t s).xp.faultCode = s.xp.faultCode ∧ (rollOver t s).xp.faultIndex = s.xp.faultIndex ∧
    (rollOver t s).xp.refusedSlot = s.xp.refusedSlot ∧ (rollOver t s).xp.refusal = s.xp.refusal ∧
    (rollOver t s).xp.faultArea = s.xp.faultArea ∧ (rollOver t s).xp.faultAddr = s.xp.faultAddr ∧
    (rollOver t s).xp.stopRequested = s.xp.stopRequested ∧ (rollOver t s).xp.stopStage = s.xp.stopStage ∧
    (rollOver t s).xp.sheet = s.xp.sheet ∧ (rollOver t s).xp.clampCount = s.xp.clampCount ∧
    (rollOver t s).xp.publishCount = s.xp.publishCount ∧ (rollOver t s).xp.publication = s.xp.publication ∧
    (rollOver t s).xp.publishWanted = s.xp.publishWanted := by
  simp [rollOver]

@[simp] theorem secondAndMinute_frame (s : State) :
    (secondAndMinute s).pu = s.pu ∧ (secondAndMinute s).sc = s.sc ∧ (secondAndMinute s).mem = s.mem ∧
    (secondAndMinute s).pending = s.pending ∧ (secondAndMinute s).freeCount = s.freeCount := by
  simp [secondAndMinute]

@[simp] theorem secondAndMinute_port (s : State) :
    (secondAndMinute s).xp.run = s.xp.run ∧ (secondAndMinute s).xp.xbase = s.xp.xbase ∧
    (secondAndMinute s).xp.attn = s.xp.attn ∧ (secondAndMinute s).xp.attnen = s.xp.attnen ∧
    (secondAndMinute s).xp.postQueue = s.xp.postQueue ∧ (secondAndMinute s).xp.faultCode = s.xp.faultCode ∧
    (secondAndMinute s).xp.faultIndex = s.xp.faultIndex ∧
    (secondAndMinute s).xp.refusedSlot = s.xp.refusedSlot ∧ (secondAndMinute s).xp.refusal = s.xp.refusal ∧
    (secondAndMinute s).xp.faultArea = s.xp.faultArea ∧ (secondAndMinute s).xp.faultAddr = s.xp.faultAddr ∧
    (secondAndMinute s).xp.stopRequested = s.xp.stopRequested ∧
    (secondAndMinute s).xp.stopStage = s.xp.stopStage ∧ (secondAndMinute s).xp.sheet = s.xp.sheet ∧
    (secondAndMinute s).xp.clampCount = s.xp.clampCount := by
  simp [secondAndMinute]

@[simp] theorem crossings_frame (b : Nat) (s : State) :
    (crossings b s).pu = s.pu ∧ (crossings b s).sc = s.sc ∧ (crossings b s).mem = s.mem ∧
    (crossings b s).pending = s.pending ∧ (crossings b s).freeCount = s.freeCount := by
  unfold crossings
  dsimp only
  split <;> split <;> simp

@[simp] theorem crossings_port (b : Nat) (s : State) :
    (crossings b s).xp.run = s.xp.run ∧ (crossings b s).xp.xbase = s.xp.xbase ∧
    (crossings b s).xp.attn = s.xp.attn ∧ (crossings b s).xp.attnen = s.xp.attnen ∧
    (crossings b s).xp.postQueue = s.xp.postQueue ∧ (crossings b s).xp.faultCode = s.xp.faultCode ∧
    (crossings b s).xp.faultIndex = s.xp.faultIndex ∧ (crossings b s).xp.refusedSlot = s.xp.refusedSlot ∧
    (crossings b s).xp.refusal = s.xp.refusal ∧ (crossings b s).xp.faultArea = s.xp.faultArea ∧
    (crossings b s).xp.faultAddr = s.xp.faultAddr ∧ (crossings b s).xp.stopRequested = s.xp.stopRequested ∧
    (crossings b s).xp.stopStage = s.xp.stopStage ∧ (crossings b s).xp.sheet = s.xp.sheet ∧
    (crossings b s).xp.clampCount = s.xp.clampCount := by
  unfold crossings
  dsimp only
  split <;> split <;> simp

@[simp] theorem advance_frame (n : Nat) (s : State) :
    (advance n s).pu = s.pu ∧ (advance n s).mem = s.mem ∧ (advance n s).pending = s.pending ∧
    (advance n s).freeCount = s.freeCount := by
  unfold advance
  split <;> simp

@[simp] theorem advance_port (n : Nat) (s : State) :
    (advance n s).xp.run = s.xp.run ∧ (advance n s).xp.xbase = s.xp.xbase ∧
    (advance n s).xp.attnen = s.xp.attnen ∧ (advance n s).xp.postQueue = s.xp.postQueue ∧
    (advance n s).xp.faultCode = s.xp.faultCode ∧ (advance n s).xp.faultIndex = s.xp.faultIndex ∧
    (advance n s).xp.refusedSlot = s.xp.refusedSlot ∧ (advance n s).xp.refusal = s.xp.refusal ∧
    (advance n s).xp.faultArea = s.xp.faultArea ∧ (advance n s).xp.faultAddr = s.xp.faultAddr ∧
    (advance n s).xp.stopRequested = s.xp.stopRequested ∧ (advance n s).xp.stopStage = s.xp.stopStage ∧
    (advance n s).xp.sheet = s.xp.sheet ∧ (advance n s).xp.clampCount = s.xp.clampCount := by
  unfold advance
  split <;> simp

@[simp] theorem slewPoint_frame (s : State) :
    (slewPoint s).pu = s.pu ∧ (slewPoint s).mem = s.mem ∧ (slewPoint s).pending = s.pending ∧
    (slewPoint s).freeCount = s.freeCount := by
  simp [slewPoint]

@[simp] theorem slewPoint_port (s : State) :
    (slewPoint s).xp.run = s.xp.run ∧ (slewPoint s).xp.xbase = s.xp.xbase ∧
    (slewPoint s).xp.attnen = s.xp.attnen ∧ (slewPoint s).xp.postQueue = s.xp.postQueue ∧
    (slewPoint s).xp.faultCode = s.xp.faultCode ∧ (slewPoint s).xp.faultIndex = s.xp.faultIndex ∧
    (slewPoint s).xp.refusedSlot = s.xp.refusedSlot ∧ (slewPoint s).xp.refusal = s.xp.refusal ∧
    (slewPoint s).xp.faultArea = s.xp.faultArea ∧ (slewPoint s).xp.faultAddr = s.xp.faultAddr ∧
    (slewPoint s).xp.stopRequested = s.xp.stopRequested ∧ (slewPoint s).xp.stopStage = s.xp.stopStage ∧
    (slewPoint s).xp.sheet = s.xp.sheet ∧ (slewPoint s).xp.clampCount = s.xp.clampCount := by
  simp [slewPoint]

@[simp] theorem slewMark_frame (o : Int) (s : State) :
    (slewMark o s).ru = s.ru ∧ (slewMark o s).pu = s.pu ∧ (slewMark o s).wc = s.wc ∧ (slewMark o s).fu = s.fu ∧
    (slewMark o s).mem = s.mem ∧ (slewMark o s).pending = s.pending ∧ (slewMark o s).freeCount = s.freeCount := by
  unfold slewMark
  dsimp only
  split <;> simp

@[simp] theorem slewMark_port (o : Int) (s : State) :
    (slewMark o s).xp.run = s.xp.run ∧ (slewMark o s).xp.xbase = s.xp.xbase ∧
    (slewMark o s).xp.attnen = s.xp.attnen ∧ (slewMark o s).xp.postQueue = s.xp.postQueue ∧
    (slewMark o s).xp.faultCode = s.xp.faultCode ∧ (slewMark o s).xp.faultIndex = s.xp.faultIndex ∧
    (slewMark o s).xp.refusedSlot = s.xp.refusedSlot ∧ (slewMark o s).xp.refusal = s.xp.refusal ∧
    (slewMark o s).xp.faultArea = s.xp.faultArea ∧ (slewMark o s).xp.faultAddr = s.xp.faultAddr ∧
    (slewMark o s).xp.stopRequested = s.xp.stopRequested ∧ (slewMark o s).xp.stopStage = s.xp.stopStage ∧
    (slewMark o s).xp.sheet = s.xp.sheet ∧ (slewMark o s).xp.clampCount = s.xp.clampCount ∧
    (slewMark o s).xp.publishCount = s.xp.publishCount ∧ (slewMark o s).xp.publication = s.xp.publication ∧
    (slewMark o s).xp.publishWanted = s.xp.publishWanted := by
  unfold slewMark
  dsimp only
  split <;> simp

@[simp] theorem stepTime_frame (o : Int) (s : State) :
    (stepTime o s).pu = s.pu ∧ (stepTime o s).wc = s.wc ∧ (stepTime o s).fu = s.fu ∧
    (stepTime o s).mem = s.mem ∧ (stepTime o s).pending = s.pending ∧ (stepTime o s).freeCount = s.freeCount := by
  unfold stepTime
  dsimp only
  split <;> simp

@[simp] theorem stepTime_port (o : Int) (s : State) :
    (stepTime o s).xp.run = s.xp.run ∧ (stepTime o s).xp.xbase = s.xp.xbase ∧
    (stepTime o s).xp.attnen = s.xp.attnen ∧ (stepTime o s).xp.postQueue = s.xp.postQueue ∧
    (stepTime o s).xp.faultCode = s.xp.faultCode ∧ (stepTime o s).xp.faultIndex = s.xp.faultIndex ∧
    (stepTime o s).xp.refusedSlot = s.xp.refusedSlot ∧ (stepTime o s).xp.refusal = s.xp.refusal ∧
    (stepTime o s).xp.faultArea = s.xp.faultArea ∧ (stepTime o s).xp.faultAddr = s.xp.faultAddr ∧
    (stepTime o s).xp.stopRequested = s.xp.stopRequested ∧ (stepTime o s).xp.stopStage = s.xp.stopStage ∧
    (stepTime o s).xp.sheet = s.xp.sheet ∧ (stepTime o s).xp.clampCount = s.xp.clampCount ∧
    (stepTime o s).xp.publishCount = s.xp.publishCount ∧ (stepTime o s).xp.publication = s.xp.publication ∧
    (stepTime o s).xp.publishWanted = s.xp.publishWanted := by
  unfold stepTime
  dsimp only
  split <;> simp

@[simp] theorem stepClock_frame (o : Int) (s : State) :
    (stepClock o s).pu = s.pu ∧ (stepClock o s).mem = s.mem ∧ (stepClock o s).pending = s.pending ∧
    (stepClock o s).freeCount = s.freeCount := by
  simp [stepClock]

@[simp] theorem stepClock_port (o : Int) (s : State) :
    (stepClock o s).xp.run = s.xp.run ∧ (stepClock o s).xp.xbase = s.xp.xbase ∧
    (stepClock o s).xp.attnen = s.xp.attnen ∧ (stepClock o s).xp.postQueue = s.xp.postQueue ∧
    (stepClock o s).xp.faultCode = s.xp.faultCode ∧ (stepClock o s).xp.faultIndex = s.xp.faultIndex ∧
    (stepClock o s).xp.refusedSlot = s.xp.refusedSlot ∧ (stepClock o s).xp.refusal = s.xp.refusal ∧
    (stepClock o s).xp.faultArea = s.xp.faultArea ∧ (stepClock o s).xp.faultAddr = s.xp.faultAddr ∧
    (stepClock o s).xp.stopRequested = s.xp.stopRequested ∧ (stepClock o s).xp.stopStage = s.xp.stopStage ∧
    (stepClock o s).xp.sheet = s.xp.sheet ∧ (stepClock o s).xp.clampCount = s.xp.clampCount := by
  simp [stepClock]

@[simp] theorem stepMark_frame (o : Int) (s : State) :
    (stepMark o s).pu = s.pu ∧ (stepMark o s).mem = s.mem ∧ (stepMark o s).pending = s.pending ∧
    (stepMark o s).freeCount = s.freeCount := by
  unfold stepMark
  split
  · split <;> simp
  · simp

@[simp] theorem stepMark_port (o : Int) (s : State) :
    (stepMark o s).xp.run = s.xp.run ∧ (stepMark o s).xp.xbase = s.xp.xbase ∧
    (stepMark o s).xp.attnen = s.xp.attnen ∧ (stepMark o s).xp.postQueue = s.xp.postQueue ∧
    (stepMark o s).xp.faultCode = s.xp.faultCode ∧ (stepMark o s).xp.faultIndex = s.xp.faultIndex ∧
    (stepMark o s).xp.refusedSlot = s.xp.refusedSlot ∧ (stepMark o s).xp.refusal = s.xp.refusal ∧
    (stepMark o s).xp.faultArea = s.xp.faultArea ∧ (stepMark o s).xp.faultAddr = s.xp.faultAddr ∧
    (stepMark o s).xp.stopRequested = s.xp.stopRequested ∧ (stepMark o s).xp.stopStage = s.xp.stopStage ∧
    (stepMark o s).xp.sheet = s.xp.sheet ∧ (stepMark o s).xp.clampCount = s.xp.clampCount := by
  unfold stepMark
  split
  · split <;> simp
  · simp

@[simp] theorem disciplineMark_frame (s : State) :
    (disciplineMark s).pu = s.pu ∧ (disciplineMark s).mem = s.mem ∧ (disciplineMark s).pending = s.pending ∧
    (disciplineMark s).freeCount = s.freeCount := by
  unfold disciplineMark
  dsimp only
  split <;> simp

@[simp] theorem disciplineMark_port (s : State) :
    (disciplineMark s).xp.run = s.xp.run ∧ (disciplineMark s).xp.xbase = s.xp.xbase ∧
    (disciplineMark s).xp.attnen = s.xp.attnen ∧ (disciplineMark s).xp.postQueue = s.xp.postQueue ∧
    (disciplineMark s).xp.faultCode = s.xp.faultCode ∧ (disciplineMark s).xp.faultIndex = s.xp.faultIndex ∧
    (disciplineMark s).xp.refusedSlot = s.xp.refusedSlot ∧ (disciplineMark s).xp.refusal = s.xp.refusal ∧
    (disciplineMark s).xp.faultArea = s.xp.faultArea ∧ (disciplineMark s).xp.faultAddr = s.xp.faultAddr ∧
    (disciplineMark s).xp.stopRequested = s.xp.stopRequested ∧
    (disciplineMark s).xp.stopStage = s.xp.stopStage ∧ (disciplineMark s).xp.sheet = s.xp.sheet ∧
    (disciplineMark s).xp.clampCount = s.xp.clampCount := by
  unfold disciplineMark
  dsimp only
  split <;> simp

@[simp] theorem takeMark_frame (s : State) :
    (takeMark s).pu = s.pu ∧ (takeMark s).mem = s.mem ∧ (takeMark s).pending = s.pending ∧
    (takeMark s).freeCount = s.freeCount := by
  unfold takeMark
  split <;> simp

@[simp] theorem takeMark_port (s : State) :
    (takeMark s).xp.run = s.xp.run ∧ (takeMark s).xp.xbase = s.xp.xbase ∧ (takeMark s).xp.attnen = s.xp.attnen ∧
    (takeMark s).xp.postQueue = s.xp.postQueue ∧ (takeMark s).xp.faultCode = s.xp.faultCode ∧
    (takeMark s).xp.faultIndex = s.xp.faultIndex ∧ (takeMark s).xp.refusedSlot = s.xp.refusedSlot ∧
    (takeMark s).xp.refusal = s.xp.refusal ∧ (takeMark s).xp.faultArea = s.xp.faultArea ∧
    (takeMark s).xp.faultAddr = s.xp.faultAddr ∧ (takeMark s).xp.stopRequested = s.xp.stopRequested ∧
    (takeMark s).xp.stopStage = s.xp.stopStage ∧ (takeMark s).xp.sheet = s.xp.sheet ∧
    (takeMark s).xp.clampCount = s.xp.clampCount := by
  unfold takeMark
  split <;> simp

@[simp] theorem enterHoldover_frame (s : State) :
    (enterHoldover s).ru = s.ru ∧ (enterHoldover s).pu = s.pu ∧ (enterHoldover s).wc = s.wc ∧
    (enterHoldover s).fu = s.fu ∧ (enterHoldover s).mem = s.mem ∧ (enterHoldover s).pending = s.pending ∧
    (enterHoldover s).freeCount = s.freeCount := by
  simp [enterHoldover]

@[simp] theorem enterHoldover_port (s : State) :
    (enterHoldover s).xp.run = s.xp.run ∧ (enterHoldover s).xp.xbase = s.xp.xbase ∧
    (enterHoldover s).xp.attnen = s.xp.attnen ∧ (enterHoldover s).xp.postQueue = s.xp.postQueue ∧
    (enterHoldover s).xp.faultCode = s.xp.faultCode ∧ (enterHoldover s).xp.faultIndex = s.xp.faultIndex ∧
    (enterHoldover s).xp.refusedSlot = s.xp.refusedSlot ∧ (enterHoldover s).xp.refusal = s.xp.refusal ∧
    (enterHoldover s).xp.faultArea = s.xp.faultArea ∧ (enterHoldover s).xp.faultAddr = s.xp.faultAddr ∧
    (enterHoldover s).xp.stopRequested = s.xp.stopRequested ∧ (enterHoldover s).xp.stopStage = s.xp.stopStage ∧
    (enterHoldover s).xp.sheet = s.xp.sheet ∧ (enterHoldover s).xp.clampCount = s.xp.clampCount ∧
    (enterHoldover s).xp.publishCount = s.xp.publishCount ∧
    (enterHoldover s).xp.publication = s.xp.publication ∧
    (enterHoldover s).xp.publishWanted = s.xp.publishWanted := by
  simp [enterHoldover]

@[simp] theorem setTime_frame (w d : Nat) (s : State) :
    (setTime w d s).pu = s.pu ∧ (setTime w d s).wc = s.wc ∧ (setTime w d s).fu = s.fu ∧
    (setTime w d s).mem = s.mem ∧ (setTime w d s).pending = s.pending ∧ (setTime w d s).freeCount = s.freeCount := by
  unfold setTime
  dsimp only
  split <;> simp

@[simp] theorem setTime_port (w d : Nat) (s : State) :
    (setTime w d s).xp.run = s.xp.run ∧ (setTime w d s).xp.xbase = s.xp.xbase ∧
    (setTime w d s).xp.attnen = s.xp.attnen ∧ (setTime w d s).xp.postQueue = s.xp.postQueue ∧
    (setTime w d s).xp.faultCode = s.xp.faultCode ∧ (setTime w d s).xp.faultIndex = s.xp.faultIndex ∧
    (setTime w d s).xp.refusedSlot = s.xp.refusedSlot ∧ (setTime w d s).xp.refusal = s.xp.refusal ∧
    (setTime w d s).xp.faultArea = s.xp.faultArea ∧ (setTime w d s).xp.faultAddr = s.xp.faultAddr ∧
    (setTime w d s).xp.stopRequested = s.xp.stopRequested ∧ (setTime w d s).xp.stopStage = s.xp.stopStage ∧
    (setTime w d s).xp.sheet = s.xp.sheet ∧ (setTime w d s).xp.clampCount = s.xp.clampCount ∧
    (setTime w d s).xp.publishCount = s.xp.publishCount ∧ (setTime w d s).xp.publication = s.xp.publication ∧
    (setTime w d s).xp.publishWanted = s.xp.publishWanted := by
  unfold setTime
  dsimp only
  split <;> simp

@[simp] theorem setTimeEvents_frame (s : State) :
    (setTimeEvents s).pu = s.pu ∧ (setTimeEvents s).sc = s.sc ∧ (setTimeEvents s).mem = s.mem ∧
    (setTimeEvents s).pending = s.pending ∧ (setTimeEvents s).freeCount = s.freeCount := by
  simp [setTimeEvents]

@[simp] theorem setTimeEvents_port (s : State) :
    (setTimeEvents s).xp.run = s.xp.run ∧ (setTimeEvents s).xp.xbase = s.xp.xbase ∧
    (setTimeEvents s).xp.attn = s.xp.attn ∧ (setTimeEvents s).xp.attnen = s.xp.attnen ∧
    (setTimeEvents s).xp.postQueue = s.xp.postQueue ∧ (setTimeEvents s).xp.faultCode = s.xp.faultCode ∧
    (setTimeEvents s).xp.faultIndex = s.xp.faultIndex ∧ (setTimeEvents s).xp.refusedSlot = s.xp.refusedSlot ∧
    (setTimeEvents s).xp.refusal = s.xp.refusal ∧ (setTimeEvents s).xp.faultArea = s.xp.faultArea ∧
    (setTimeEvents s).xp.faultAddr = s.xp.faultAddr ∧ (setTimeEvents s).xp.stopRequested = s.xp.stopRequested ∧
    (setTimeEvents s).xp.stopStage = s.xp.stopStage ∧ (setTimeEvents s).xp.sheet = s.xp.sheet ∧
    (setTimeEvents s).xp.clampCount = s.xp.clampCount := by
  simp [setTimeEvents]

@[simp] theorem setPlatform_frame (p : Nat) (f : PlatformRec → PlatformRec) (s : State) :
    (setPlatform p f s).ru = s.ru ∧ (setPlatform p f s).sc = s.sc ∧ (setPlatform p f s).wc = s.wc ∧
    (setPlatform p f s).fu = s.fu ∧ (setPlatform p f s).cq = s.cq ∧ (setPlatform p f s).xp = s.xp ∧
    (setPlatform p f s).mem = s.mem ∧ (setPlatform p f s).pending = s.pending ∧
    (setPlatform p f s).freeCount = s.freeCount := by
  unfold setPlatform
  split <;> simp

@[simp] theorem takeLevel_frame (p : Nat) (l : Bool) (s : State) :
    (takeLevel p l s).ru = s.ru ∧ (takeLevel p l s).sc = s.sc ∧ (takeLevel p l s).wc = s.wc ∧
    (takeLevel p l s).fu = s.fu ∧ (takeLevel p l s).cq = s.cq ∧ (takeLevel p l s).xp = s.xp ∧
    (takeLevel p l s).mem = s.mem ∧ (takeLevel p l s).pending = s.pending ∧
    (takeLevel p l s).freeCount = s.freeCount := by
  unfold takeLevel
  split <;> simp

@[simp] theorem contactFaults_frame (p : Nat) (s : State) :
    (contactFaults p s).ru = s.ru ∧ (contactFaults p s).sc = s.sc ∧ (contactFaults p s).mem = s.mem ∧
    (contactFaults p s).pending = s.pending ∧ (contactFaults p s).freeCount = s.freeCount := by
  simp [contactFaults]

@[simp] theorem contactFaults_port (p : Nat) (s : State) :
    (contactFaults p s).xp.run = s.xp.run ∧ (contactFaults p s).xp.xbase = s.xp.xbase ∧
    (contactFaults p s).xp.attnen = s.xp.attnen ∧ (contactFaults p s).xp.postQueue = s.xp.postQueue ∧
    (contactFaults p s).xp.faultCode = s.xp.faultCode ∧ (contactFaults p s).xp.faultIndex = s.xp.faultIndex ∧
    (contactFaults p s).xp.refusedSlot = s.xp.refusedSlot ∧ (contactFaults p s).xp.refusal = s.xp.refusal ∧
    (contactFaults p s).xp.faultArea = s.xp.faultArea ∧ (contactFaults p s).xp.faultAddr = s.xp.faultAddr ∧
    (contactFaults p s).xp.stopRequested = s.xp.stopRequested ∧
    (contactFaults p s).xp.stopStage = s.xp.stopStage ∧ (contactFaults p s).xp.sheet = s.xp.sheet ∧
    (contactFaults p s).xp.clampCount = s.xp.clampCount := by
  simp [contactFaults]

@[simp] theorem acceptChange_frame (p : Nat) (b : Bool) (s : State) :
    (acceptChange p b s).sc = s.sc ∧ (acceptChange p b s).mem = s.mem ∧
    (acceptChange p b s).pending = s.pending ∧ (acceptChange p b s).freeCount = s.freeCount := by
  unfold acceptChange
  dsimp only
  split <;> simp

@[simp] theorem acceptChange_port (p : Nat) (b : Bool) (s : State) :
    (acceptChange p b s).xp.run = s.xp.run ∧ (acceptChange p b s).xp.xbase = s.xp.xbase ∧
    (acceptChange p b s).xp.attn = s.xp.attn ∧ (acceptChange p b s).xp.attnen = s.xp.attnen ∧
    (acceptChange p b s).xp.postQueue = s.xp.postQueue ∧ (acceptChange p b s).xp.faultCode = s.xp.faultCode ∧
    (acceptChange p b s).xp.faultIndex = s.xp.faultIndex ∧
    (acceptChange p b s).xp.refusedSlot = s.xp.refusedSlot ∧ (acceptChange p b s).xp.refusal = s.xp.refusal ∧
    (acceptChange p b s).xp.faultArea = s.xp.faultArea ∧ (acceptChange p b s).xp.faultAddr = s.xp.faultAddr ∧
    (acceptChange p b s).xp.stopRequested = s.xp.stopRequested ∧
    (acceptChange p b s).xp.stopStage = s.xp.stopStage ∧ (acceptChange p b s).xp.sheet = s.xp.sheet ∧
    (acceptChange p b s).xp.clampCount = s.xp.clampCount := by
  unfold acceptChange
  dsimp only
  split <;> simp

@[simp] theorem endBaseline_frame (p : Nat) (b : Bool) (s : State) :
    (endBaseline p b s).ru = s.ru ∧ (endBaseline p b s).sc = s.sc ∧ (endBaseline p b s).mem = s.mem ∧
    (endBaseline p b s).pending = s.pending ∧ (endBaseline p b s).freeCount = s.freeCount := by
  simp [endBaseline]

@[simp] theorem endBaseline_port (p : Nat) (b : Bool) (s : State) :
    (endBaseline p b s).xp.run = s.xp.run ∧ (endBaseline p b s).xp.xbase = s.xp.xbase ∧
    (endBaseline p b s).xp.attn = s.xp.attn ∧ (endBaseline p b s).xp.attnen = s.xp.attnen ∧
    (endBaseline p b s).xp.postQueue = s.xp.postQueue ∧ (endBaseline p b s).xp.faultCode = s.xp.faultCode ∧
    (endBaseline p b s).xp.faultIndex = s.xp.faultIndex ∧
    (endBaseline p b s).xp.refusedSlot = s.xp.refusedSlot ∧ (endBaseline p b s).xp.refusal = s.xp.refusal ∧
    (endBaseline p b s).xp.faultArea = s.xp.faultArea ∧ (endBaseline p b s).xp.faultAddr = s.xp.faultAddr ∧
    (endBaseline p b s).xp.stopRequested = s.xp.stopRequested ∧
    (endBaseline p b s).xp.stopStage = s.xp.stopStage ∧ (endBaseline p b s).xp.sheet = s.xp.sheet ∧
    (endBaseline p b s).xp.clampCount = s.xp.clampCount := by
  simp [endBaseline]

@[simp] theorem pendingExpired_frame (p : Nat) (b : Bool) (s : State) :
    (pendingExpired p b s).sc = s.sc ∧ (pendingExpired p b s).mem = s.mem ∧
    (pendingExpired p b s).pending = s.pending ∧ (pendingExpired p b s).freeCount = s.freeCount := by
  unfold pendingExpired
  split
  · simp
  · simp
  all_goals split <;> simp

@[simp] theorem pendingExpired_port (p : Nat) (b : Bool) (s : State) :
    (pendingExpired p b s).xp.run = s.xp.run ∧ (pendingExpired p b s).xp.xbase = s.xp.xbase ∧
    (pendingExpired p b s).xp.attnen = s.xp.attnen ∧ (pendingExpired p b s).xp.postQueue = s.xp.postQueue ∧
    (pendingExpired p b s).xp.faultCode = s.xp.faultCode ∧
    (pendingExpired p b s).xp.faultIndex = s.xp.faultIndex ∧
    (pendingExpired p b s).xp.refusedSlot = s.xp.refusedSlot ∧
    (pendingExpired p b s).xp.refusal = s.xp.refusal ∧ (pendingExpired p b s).xp.faultArea = s.xp.faultArea ∧
    (pendingExpired p b s).xp.faultAddr = s.xp.faultAddr ∧
    (pendingExpired p b s).xp.stopRequested = s.xp.stopRequested ∧
    (pendingExpired p b s).xp.stopStage = s.xp.stopStage ∧ (pendingExpired p b s).xp.sheet = s.xp.sheet ∧
    (pendingExpired p b s).xp.clampCount = s.xp.clampCount := by
  unfold pendingExpired
  split
  · simp
  · simp
  all_goals split <;> simp

@[simp] theorem startBaseline_frame (p : Nat) (s : State) :
    (startBaseline p s).ru = s.ru ∧ (startBaseline p s).sc = s.sc ∧ (startBaseline p s).wc = s.wc ∧
    (startBaseline p s).fu = s.fu ∧ (startBaseline p s).cq = s.cq ∧ (startBaseline p s).xp = s.xp ∧
    (startBaseline p s).mem = s.mem ∧ (startBaseline p s).pending = s.pending ∧
    (startBaseline p s).freeCount = s.freeCount := by
  unfold startBaseline
  split <;> simp

@[simp] theorem restoreContact_frame (p : Nat) (s : State) :
    (restoreContact p s).ru = s.ru ∧ (restoreContact p s).sc = s.sc ∧ (restoreContact p s).wc = s.wc ∧
    (restoreContact p s).fu = s.fu ∧ (restoreContact p s).cq = s.cq ∧ (restoreContact p s).xp = s.xp ∧
    (restoreContact p s).mem = s.mem ∧ (restoreContact p s).pending = s.pending ∧
    (restoreContact p s).freeCount = s.freeCount := by
  unfold restoreContact
  dsimp only
  split <;> simp

@[simp] theorem forgetContacts_frame (s : State) :
    (forgetContacts s).ru = s.ru ∧ (forgetContacts s).sc = s.sc ∧ (forgetContacts s).wc = s.wc ∧
    (forgetContacts s).fu = s.fu ∧ (forgetContacts s).cq = s.cq ∧ (forgetContacts s).xp = s.xp ∧
    (forgetContacts s).mem = s.mem ∧ (forgetContacts s).pending = s.pending ∧
    (forgetContacts s).freeCount = s.freeCount := by
  simp [forgetContacts]

@[simp] theorem setLine_frame (n : Nat) (f : FieldLine → FieldLine) (s : State) :
    (setLine n f s).ru = s.ru ∧ (setLine n f s).pu = s.pu ∧ (setLine n f s).sc = s.sc ∧
    (setLine n f s).wc = s.wc ∧ (setLine n f s).cq = s.cq ∧ (setLine n f s).xp = s.xp ∧
    (setLine n f s).mem = s.mem ∧ (setLine n f s).pending = s.pending ∧ (setLine n f s).freeCount = s.freeCount := by
  simp [setLine]

@[simp] theorem holdSample_frame (n : Nat) (h l : Bool) (s : State) :
    (holdSample n h l s).ru = s.ru ∧ (holdSample n h l s).sc = s.sc ∧ (holdSample n h l s).wc = s.wc ∧
    (holdSample n h l s).cq = s.cq ∧ (holdSample n h l s).xp = s.xp ∧ (holdSample n h l s).mem = s.mem ∧
    (holdSample n h l s).pending = s.pending ∧ (holdSample n h l s).freeCount = s.freeCount := by
  unfold holdSample
  dsimp only
  repeat' split
  all_goals simp

@[simp] theorem contactSample_frame (n : Nat) (l d : Bool) (s : State) :
    (contactSample n l d s).ru = s.ru ∧ (contactSample n l d s).sc = s.sc ∧ (contactSample n l d s).wc = s.wc ∧
    (contactSample n l d s).cq = s.cq ∧ (contactSample n l d s).xp = s.xp ∧ (contactSample n l d s).mem = s.mem ∧
    (contactSample n l d s).pending = s.pending ∧ (contactSample n l d s).freeCount = s.freeCount := by
  unfold contactSample
  split <;> simp

@[simp] theorem markSample_frame (l : Bool) (s : State) :
    (markSample l s).pu = s.pu ∧ (markSample l s).mem = s.mem ∧ (markSample l s).pending = s.pending ∧
    (markSample l s).freeCount = s.freeCount := by
  unfold markSample
  split
  · simp
  · split
    · simp
    · dsimp only
      split <;> simp

@[simp] theorem markSample_port (l : Bool) (s : State) :
    (markSample l s).xp.run = s.xp.run ∧ (markSample l s).xp.xbase = s.xp.xbase ∧
    (markSample l s).xp.attnen = s.xp.attnen ∧ (markSample l s).xp.postQueue = s.xp.postQueue ∧
    (markSample l s).xp.faultCode = s.xp.faultCode ∧ (markSample l s).xp.faultIndex = s.xp.faultIndex ∧
    (markSample l s).xp.refusedSlot = s.xp.refusedSlot ∧ (markSample l s).xp.refusal = s.xp.refusal ∧
    (markSample l s).xp.faultArea = s.xp.faultArea ∧ (markSample l s).xp.faultAddr = s.xp.faultAddr ∧
    (markSample l s).xp.stopRequested = s.xp.stopRequested ∧ (markSample l s).xp.stopStage = s.xp.stopStage ∧
    (markSample l s).xp.sheet = s.xp.sheet ∧ (markSample l s).xp.clampCount = s.xp.clampCount := by
  unfold markSample
  split
  · simp
  · split
    · simp
    · dsimp only
      split <;> simp

@[simp] theorem endPulse_frame (n : Nat) (s : State) :
    (endPulse n s).ru = s.ru ∧ (endPulse n s).pu = s.pu ∧ (endPulse n s).sc = s.sc ∧ (endPulse n s).wc = s.wc ∧
    (endPulse n s).cq = s.cq ∧ (endPulse n s).xp = s.xp ∧ (endPulse n s).mem = s.mem ∧
    (endPulse n s).pending = s.pending ∧ (endPulse n s).freeCount = s.freeCount := by
  simp [endPulse]

@[simp] theorem onDims_frame (f : Nat → Dim → Dim) (s : State) :
    (onDims f s).ru = s.ru ∧ (onDims f s).pu = s.pu ∧ (onDims f s).sc = s.sc ∧ (onDims f s).wc = s.wc ∧
    (onDims f s).cq = s.cq ∧ (onDims f s).xp = s.xp ∧ (onDims f s).mem = s.mem ∧
    (onDims f s).pending = s.pending ∧ (onDims f s).freeCount = s.freeCount := by
  simp [onDims]

@[simp] theorem dimPeriod_frame (s : State) :
    (dimPeriod s).ru = s.ru ∧ (dimPeriod s).pu = s.pu ∧ (dimPeriod s).sc = s.sc ∧ (dimPeriod s).wc = s.wc ∧
    (dimPeriod s).cq = s.cq ∧ (dimPeriod s).xp = s.xp ∧ (dimPeriod s).mem = s.mem ∧
    (dimPeriod s).pending = s.pending ∧ (dimPeriod s).freeCount = s.freeCount := by
  simp [dimPeriod]

@[simp] theorem rampDims_frame (s : State) :
    (rampDims s).ru = s.ru ∧ (rampDims s).pu = s.pu ∧ (rampDims s).sc = s.sc ∧ (rampDims s).wc = s.wc ∧
    (rampDims s).cq = s.cq ∧ (rampDims s).xp = s.xp ∧ (rampDims s).mem = s.mem ∧
    (rampDims s).pending = s.pending ∧ (rampDims s).freeCount = s.freeCount := by
  unfold rampDims
  split <;> simp

@[simp] theorem zeroDuties_frame (s : State) :
    (zeroDuties s).ru = s.ru ∧ (zeroDuties s).pu = s.pu ∧ (zeroDuties s).sc = s.sc ∧ (zeroDuties s).wc = s.wc ∧
    (zeroDuties s).cq = s.cq ∧ (zeroDuties s).xp = s.xp ∧ (zeroDuties s).mem = s.mem ∧
    (zeroDuties s).pending = s.pending ∧ (zeroDuties s).freeCount = s.freeCount := by
  simp [zeroDuties]

@[simp] theorem sampleSensors_frame (r : Nat → Nat) (s : State) :
    (sampleSensors r s).ru = s.ru ∧ (sampleSensors r s).pu = s.pu ∧ (sampleSensors r s).sc = s.sc ∧
    (sampleSensors r s).wc = s.wc ∧ (sampleSensors r s).cq = s.cq ∧ (sampleSensors r s).xp = s.xp ∧
    (sampleSensors r s).mem = s.mem ∧ (sampleSensors r s).pending = s.pending ∧
    (sampleSensors r s).freeCount = s.freeCount := by
  simp [sampleSensors]

@[simp] theorem testDelay_frame (i : Nat) (d : Delay) (s : State) :
    (testDelay i d s).pu = s.pu ∧ (testDelay i d s).sc = s.sc ∧ (testDelay i d s).wc = s.wc ∧
    (testDelay i d s).fu = s.fu ∧ (testDelay i d s).mem = s.mem ∧ (testDelay i d s).pending = s.pending ∧
    (testDelay i d s).freeCount = s.freeCount := by
  unfold testDelay
  split
  · simp
  · split <;> simp

@[simp] theorem testDelay_port (i : Nat) (d : Delay) (s : State) :
    (testDelay i d s).xp.run = s.xp.run ∧ (testDelay i d s).xp.xbase = s.xp.xbase ∧
    (testDelay i d s).xp.attn = s.xp.attn ∧ (testDelay i d s).xp.attnen = s.xp.attnen ∧
    (testDelay i d s).xp.postQueue = s.xp.postQueue ∧ (testDelay i d s).xp.faultCode = s.xp.faultCode ∧
    (testDelay i d s).xp.faultIndex = s.xp.faultIndex ∧ (testDelay i d s).xp.refusedSlot = s.xp.refusedSlot ∧
    (testDelay i d s).xp.refusal = s.xp.refusal ∧ (testDelay i d s).xp.faultArea = s.xp.faultArea ∧
    (testDelay i d s).xp.faultAddr = s.xp.faultAddr ∧ (testDelay i d s).xp.stopRequested = s.xp.stopRequested ∧
    (testDelay i d s).xp.stopStage = s.xp.stopStage ∧ (testDelay i d s).xp.sheet = s.xp.sheet ∧
    (testDelay i d s).xp.clampCount = s.xp.clampCount ∧ (testDelay i d s).xp.publishCount = s.xp.publishCount ∧
    (testDelay i d s).xp.publication = s.xp.publication ∧
    (testDelay i d s).xp.publishWanted = s.xp.publishWanted := by
  unfold testDelay
  split
  · simp
  · split <;> simp

@[simp] theorem makeNote_frame (n : Note) (s : State) :
    (makeNote s n).fu = s.fu ∧ (makeNote s n).mem = s.mem ∧ (makeNote s n).pending = s.pending ∧
    (makeNote s n).freeCount = s.freeCount := by
  unfold makeNote
  split <;> (try split) <;> simp

@[simp] theorem makeNote_port (n : Note) (s : State) :
    (makeNote s n).xp.run = s.xp.run ∧ (makeNote s n).xp.xbase = s.xp.xbase ∧
    (makeNote s n).xp.attnen = s.xp.attnen ∧ (makeNote s n).xp.postQueue = s.xp.postQueue ∧
    (makeNote s n).xp.faultCode = s.xp.faultCode ∧ (makeNote s n).xp.faultIndex = s.xp.faultIndex ∧
    (makeNote s n).xp.refusedSlot = s.xp.refusedSlot ∧ (makeNote s n).xp.refusal = s.xp.refusal ∧
    (makeNote s n).xp.faultArea = s.xp.faultArea ∧ (makeNote s n).xp.faultAddr = s.xp.faultAddr ∧
    (makeNote s n).xp.stopRequested = s.xp.stopRequested ∧ (makeNote s n).xp.stopStage = s.xp.stopStage ∧
    (makeNote s n).xp.sheet = s.xp.sheet ∧ (makeNote s n).xp.clampCount = s.xp.clampCount ∧
    (makeNote s n).xp.publishCount = s.xp.publishCount ∧ (makeNote s n).xp.publication = s.xp.publication ∧
    (makeNote s n).xp.publishWanted = s.xp.publishWanted := by
  unfold makeNote
  split <;> (try split) <;> simp

@[simp] theorem commitNotes_frame (w : Work) (s : State) :
    (commitNotes w s).fu = s.fu ∧ (commitNotes w s).mem = s.mem ∧ (commitNotes w s).pending = s.pending ∧
    (commitNotes w s).freeCount = s.freeCount := by
  unfold commitNotes
  refine ⟨?_, ?_, ?_, ?_⟩ <;>
    exact (foldl_view _ _ (fun s a => by simp) _ _).trans (by simp)

@[simp] theorem commitNotes_port (w : Work) (s : State) :
    (commitNotes w s).xp.run = s.xp.run ∧ (commitNotes w s).xp.xbase = s.xp.xbase ∧
    (commitNotes w s).xp.attnen = s.xp.attnen ∧ (commitNotes w s).xp.postQueue = s.xp.postQueue ∧
    (commitNotes w s).xp.faultCode = s.xp.faultCode ∧ (commitNotes w s).xp.faultIndex = s.xp.faultIndex ∧
    (commitNotes w s).xp.refusedSlot = s.xp.refusedSlot ∧ (commitNotes w s).xp.refusal = s.xp.refusal ∧
    (commitNotes w s).xp.faultArea = s.xp.faultArea ∧ (commitNotes w s).xp.faultAddr = s.xp.faultAddr ∧
    (commitNotes w s).xp.stopRequested = s.xp.stopRequested ∧ (commitNotes w s).xp.stopStage = s.xp.stopStage ∧
    (commitNotes w s).xp.sheet = s.xp.sheet ∧ (commitNotes w s).xp.clampCount = s.xp.clampCount ∧
    (commitNotes w s).xp.publishCount = s.xp.publishCount ∧
    (commitNotes w s).xp.publication = s.xp.publication ∧
    (commitNotes w s).xp.publishWanted = s.xp.publishWanted := by
  unfold commitNotes
  exact ⟨(foldl_view (fun t => t.xp.run) _ (fun s a => by simp) _ _).trans (by simp),
    (foldl_view (fun t => t.xp.xbase) _ (fun s a => by simp) _ _).trans (by simp),
    (foldl_view (fun t => t.xp.attnen) _ (fun s a => by simp) _ _).trans (by simp),
    (foldl_view (fun t => t.xp.postQueue) _ (fun s a => by simp) _ _).trans (by simp),
    (foldl_view (fun t => t.xp.faultCode) _ (fun s a => by simp) _ _).trans (by simp),
    (foldl_view (fun t => t.xp.faultIndex) _ (fun s a => by simp) _ _).trans (by simp),
    (foldl_view (fun t => t.xp.refusedSlot) _ (fun s a => by simp) _ _).trans (by simp),
    (foldl_view (fun t => t.xp.refusal) _ (fun s a => by simp) _ _).trans (by simp),
    (foldl_view (fun t => t.xp.faultArea) _ (fun s a => by simp) _ _).trans (by simp),
    (foldl_view (fun t => t.xp.faultAddr) _ (fun s a => by simp) _ _).trans (by simp),
    (foldl_view (fun t => t.xp.stopRequested) _ (fun s a => by simp) _ _).trans (by simp),
    (foldl_view (fun t => t.xp.stopStage) _ (fun s a => by simp) _ _).trans (by simp),
    (foldl_view (fun t => t.xp.sheet) _ (fun s a => by simp) _ _).trans (by simp),
    (foldl_view (fun t => t.xp.clampCount) _ (fun s a => by simp) _ _).trans (by simp),
    (foldl_view (fun t => t.xp.publishCount) _ (fun s a => by simp) _ _).trans (by simp),
    (foldl_view (fun t => t.xp.publication) _ (fun s a => by simp) _ _).trans (by simp),
    (foldl_view (fun t => t.xp.publishWanted) _ (fun s a => by simp) _ _).trans (by simp)⟩

@[simp] theorem commitSheet_frame (w : Work) (s : State) :
    (commitSheet w s).mem = s.mem ∧ (commitSheet w s).pending = s.pending ∧
    (commitSheet w s).freeCount = s.freeCount := by
  unfold commitSheet
  dsimp only
  split <;> simp

@[simp] theorem commitSheet_port (w : Work) (s : State) :
    (commitSheet w s).xp.run = s.xp.run ∧ (commitSheet w s).xp.xbase = s.xp.xbase ∧
    (commitSheet w s).xp.attnen = s.xp.attnen ∧ (commitSheet w s).xp.postQueue = s.xp.postQueue ∧
    (commitSheet w s).xp.faultCode = s.xp.faultCode ∧ (commitSheet w s).xp.faultIndex = s.xp.faultIndex ∧
    (commitSheet w s).xp.refusedSlot = s.xp.refusedSlot ∧ (commitSheet w s).xp.refusal = s.xp.refusal ∧
    (commitSheet w s).xp.faultArea = s.xp.faultArea ∧ (commitSheet w s).xp.faultAddr = s.xp.faultAddr ∧
    (commitSheet w s).xp.stopRequested = s.xp.stopRequested ∧ (commitSheet w s).xp.stopStage = s.xp.stopStage ∧
    (commitSheet w s).xp.sheet = s.xp.sheet ∧ (commitSheet w s).xp.clampCount = s.xp.clampCount := by
  unfold commitSheet
  dsimp only
  split <;> simp

@[simp] theorem applySheet_frame (h : SheetHeader) (u : Option (List Byte)) (s : State) :
    (applySheet h u s).mem = s.mem ∧ (applySheet h u s).pending = s.pending ∧
    (applySheet h u s).freeCount = s.freeCount := by
  unfold applySheet
  split <;> simp

@[simp] theorem applySheet_port (h : SheetHeader) (u : Option (List Byte)) (s : State) :
    (applySheet h u s).xp.run = s.xp.run ∧ (applySheet h u s).xp.xbase = s.xp.xbase ∧
    (applySheet h u s).xp.attnen = s.xp.attnen ∧ (applySheet h u s).xp.postQueue = s.xp.postQueue ∧
    (applySheet h u s).xp.faultCode = s.xp.faultCode ∧ (applySheet h u s).xp.faultIndex = s.xp.faultIndex ∧
    (applySheet h u s).xp.refusedSlot = s.xp.refusedSlot ∧ (applySheet h u s).xp.refusal = s.xp.refusal ∧
    (applySheet h u s).xp.faultArea = s.xp.faultArea ∧ (applySheet h u s).xp.faultAddr = s.xp.faultAddr ∧
    (applySheet h u s).xp.stopRequested = s.xp.stopRequested ∧
    (applySheet h u s).xp.stopStage = s.xp.stopStage ∧ (applySheet h u s).xp.sheet = s.xp.sheet ∧
    (applySheet h u s).xp.clampCount = s.xp.clampCount := by
  unfold applySheet
  split <;> simp

@[simp] theorem refusePost_frame (n : Nat) (r : PostRefusal) (s : State) :
    (refusePost n r s).ru = s.ru ∧ (refusePost n r s).pu = s.pu ∧ (refusePost n r s).sc = s.sc ∧
    (refusePost n r s).wc = s.wc ∧ (refusePost n r s).fu = s.fu ∧ (refusePost n r s).cq = s.cq ∧
    (refusePost n r s).mem = s.mem ∧ (refusePost n r s).pending = s.pending ∧
    (refusePost n r s).freeCount = s.freeCount := by
  simp [refusePost]

@[simp] theorem tryTake_frame (s : State) :
    (tryTake s).ru = s.ru ∧ (tryTake s).pu = s.pu ∧ (tryTake s).sc = s.sc ∧ (tryTake s).wc = s.wc ∧
    (tryTake s).fu = s.fu ∧ (tryTake s).cq = s.cq ∧ (tryTake s).mem = s.mem ∧ (tryTake s).pending = s.pending ∧
    (tryTake s).freeCount = s.freeCount := by
  unfold tryTake
  split
  · split <;> simp
  · simp

@[simp] theorem takePost_frame (n : Nat) (s : State) :
    (takePost n s).ru = s.ru ∧ (takePost n s).pu = s.pu ∧ (takePost n s).sc = s.sc ∧ (takePost n s).wc = s.wc ∧
    (takePost n s).fu = s.fu ∧ (takePost n s).cq = s.cq ∧ (takePost n s).mem = s.mem ∧
    (takePost n s).pending = s.pending ∧ (takePost n s).freeCount = s.freeCount := by
  unfold takePost
  split <;> simp

@[simp] theorem sheetRequest_frame (j : SheetJob) (r : MemReq) (s : State) :
    (sheetRequest j r s).ru = s.ru ∧ (sheetRequest j r s).pu = s.pu ∧ (sheetRequest j r s).sc = s.sc ∧
    (sheetRequest j r s).wc = s.wc ∧ (sheetRequest j r s).fu = s.fu ∧ (sheetRequest j r s).cq = s.cq ∧
    (sheetRequest j r s).mem = s.mem ∧ (sheetRequest j r s).pending = s.pending ∧
    (sheetRequest j r s).freeCount = s.freeCount := by
  simp [sheetRequest]

@[simp] theorem flightEnds_frame (s : State) :
    (flightEnds s).ru = s.ru ∧ (flightEnds s).pu = s.pu ∧ (flightEnds s).sc = s.sc ∧ (flightEnds s).wc = s.wc ∧
    (flightEnds s).fu = s.fu ∧ (flightEnds s).cq = s.cq ∧ (flightEnds s).mem = s.mem ∧
    (flightEnds s).pending = s.pending ∧ (flightEnds s).freeCount = s.freeCount := by
  simp [flightEnds]

@[simp] theorem fetchCompleted_frame (u : Option (List Byte)) (s : State) :
    (fetchCompleted u s).mem = s.mem ∧ (fetchCompleted u s).pending = s.pending ∧
    (fetchCompleted u s).freeCount = s.freeCount := by
  unfold fetchCompleted
  split
  · simp
  · dsimp only
    simp

@[simp] theorem headerReturned_frame (l : List Byte) (s : State) :
    (headerReturned l s).ru = s.ru ∧ (headerReturned l s).pu = s.pu ∧ (headerReturned l s).sc = s.sc ∧
    (headerReturned l s).wc = s.wc ∧ (headerReturned l s).fu = s.fu ∧ (headerReturned l s).cq = s.cq ∧
    (headerReturned l s).mem = s.mem ∧ (headerReturned l s).pending = s.pending ∧
    (headerReturned l s).freeCount = s.freeCount := by
  unfold headerReturned
  split
  · simp
  · split <;> simp

@[simp] theorem takenWritten_frame (s : State) :
    (takenWritten s).mem = s.mem ∧ (takenWritten s).pending = s.pending ∧
    (takenWritten s).freeCount = s.freeCount := by
  unfold takenWritten
  split
  · simp
  · split <;> simp

@[simp] theorem resultWritten_frame (s : State) :
    (resultWritten s).ru = s.ru ∧ (resultWritten s).pu = s.pu ∧ (resultWritten s).sc = s.sc ∧
    (resultWritten s).wc = s.wc ∧ (resultWritten s).fu = s.fu ∧ (resultWritten s).cq = s.cq ∧
    (resultWritten s).mem = s.mem ∧ (resultWritten s).pending = s.pending ∧
    (resultWritten s).freeCount = s.freeCount := by
  unfold resultWritten
  split <;> simp

@[simp] theorem doneWritten_frame (s : State) :
    (doneWritten s).ru = s.ru ∧ (doneWritten s).pu = s.pu ∧ (doneWritten s).sc = s.sc ∧
    (doneWritten s).wc = s.wc ∧ (doneWritten s).fu = s.fu ∧ (doneWritten s).cq = s.cq ∧
    (doneWritten s).mem = s.mem ∧ (doneWritten s).pending = s.pending ∧ (doneWritten s).freeCount = s.freeCount := by
  simp [doneWritten]

@[simp] theorem enterStage_frame (g : StopStage) (s : State) :
    (enterStage g s).ru = s.ru ∧ (enterStage g s).pu = s.pu ∧ (enterStage g s).sc = s.sc ∧
    (enterStage g s).wc = s.wc ∧ (enterStage g s).fu = s.fu ∧ (enterStage g s).cq = s.cq ∧
    (enterStage g s).mem = s.mem ∧ (enterStage g s).pending = s.pending ∧
    (enterStage g s).freeCount = s.freeCount := by
  simp [enterStage]

@[simp] theorem enterStage_port (g : StopStage) (s : State) :
    (enterStage g s).xp.run = s.xp.run ∧ (enterStage g s).xp.xbase = s.xp.xbase ∧
    (enterStage g s).xp.attn = s.xp.attn ∧ (enterStage g s).xp.attnen = s.xp.attnen ∧
    (enterStage g s).xp.postQueue = s.xp.postQueue ∧ (enterStage g s).xp.faultCode = s.xp.faultCode ∧
    (enterStage g s).xp.faultIndex = s.xp.faultIndex ∧ (enterStage g s).xp.refusedSlot = s.xp.refusedSlot ∧
    (enterStage g s).xp.refusal = s.xp.refusal ∧ (enterStage g s).xp.faultArea = s.xp.faultArea ∧
    (enterStage g s).xp.faultAddr = s.xp.faultAddr ∧ (enterStage g s).xp.stopRequested = s.xp.stopRequested ∧
    (enterStage g s).xp.sheet = s.xp.sheet ∧ (enterStage g s).xp.clampCount = s.xp.clampCount ∧
    (enterStage g s).xp.publishCount = s.xp.publishCount ∧ (enterStage g s).xp.publication = s.xp.publication ∧
    (enterStage g s).xp.publishWanted = s.xp.publishWanted := by
  simp [enterStage]

@[simp] theorem sheetStep_frame (s : State) :
    (sheetStep s).ru = s.ru ∧ (sheetStep s).pu = s.pu ∧ (sheetStep s).sc = s.sc ∧ (sheetStep s).wc = s.wc ∧
    (sheetStep s).fu = s.fu ∧ (sheetStep s).cq = s.cq ∧ (sheetStep s).mem = s.mem ∧
    (sheetStep s).pending = s.pending ∧ (sheetStep s).freeCount = s.freeCount := by
  unfold sheetStep
  split <;> simp

@[simp] theorem sheetStep_port (s : State) :
    (sheetStep s).xp.run = s.xp.run ∧ (sheetStep s).xp.xbase = s.xp.xbase ∧ (sheetStep s).xp.attn = s.xp.attn ∧
    (sheetStep s).xp.attnen = s.xp.attnen ∧ (sheetStep s).xp.postQueue = s.xp.postQueue ∧
    (sheetStep s).xp.faultCode = s.xp.faultCode ∧ (sheetStep s).xp.faultIndex = s.xp.faultIndex ∧
    (sheetStep s).xp.refusedSlot = s.xp.refusedSlot ∧ (sheetStep s).xp.refusal = s.xp.refusal ∧
    (sheetStep s).xp.faultArea = s.xp.faultArea ∧ (sheetStep s).xp.faultAddr = s.xp.faultAddr ∧
    (sheetStep s).xp.stopRequested = s.xp.stopRequested ∧ (sheetStep s).xp.sheet = s.xp.sheet ∧
    (sheetStep s).xp.clampCount = s.xp.clampCount ∧ (sheetStep s).xp.publishCount = s.xp.publishCount ∧
    (sheetStep s).xp.publication = s.xp.publication ∧ (sheetStep s).xp.publishWanted = s.xp.publishWanted := by
  unfold sheetStep
  split <;> simp

@[simp] theorem frameStep_frame (s : State) :
    (frameStep s).ru = s.ru ∧ (frameStep s).pu = s.pu ∧ (frameStep s).sc = s.sc ∧ (frameStep s).wc = s.wc ∧
    (frameStep s).fu = s.fu ∧ (frameStep s).mem = s.mem ∧ (frameStep s).pending = s.pending ∧
    (frameStep s).freeCount = s.freeCount := by
  unfold frameStep
  split <;> simp

@[simp] theorem frameStep_port (s : State) :
    (frameStep s).xp.run = s.xp.run ∧ (frameStep s).xp.xbase = s.xp.xbase ∧ (frameStep s).xp.attn = s.xp.attn ∧
    (frameStep s).xp.attnen = s.xp.attnen ∧ (frameStep s).xp.postQueue = s.xp.postQueue ∧
    (frameStep s).xp.faultCode = s.xp.faultCode ∧ (frameStep s).xp.faultIndex = s.xp.faultIndex ∧
    (frameStep s).xp.refusedSlot = s.xp.refusedSlot ∧ (frameStep s).xp.refusal = s.xp.refusal ∧
    (frameStep s).xp.faultArea = s.xp.faultArea ∧ (frameStep s).xp.faultAddr = s.xp.faultAddr ∧
    (frameStep s).xp.stopRequested = s.xp.stopRequested ∧ (frameStep s).xp.sheet = s.xp.sheet ∧
    (frameStep s).xp.clampCount = s.xp.clampCount ∧ (frameStep s).xp.publishCount = s.xp.publishCount ∧
    (frameStep s).xp.publication = s.xp.publication ∧ (frameStep s).xp.publishWanted = s.xp.publishWanted := by
  unfold frameStep
  split <;> simp

@[simp] theorem pageStep_frame (s : State) :
    (pageStep s).ru = s.ru ∧ (pageStep s).pu = s.pu ∧ (pageStep s).sc = s.sc ∧ (pageStep s).mem = s.mem ∧
    (pageStep s).pending = s.pending ∧ (pageStep s).freeCount = s.freeCount := by
  unfold pageStep
  split
  · split
    · simp
    · split <;> simp
  · simp

@[simp] theorem enterStopped_frame (s : State) :
    (enterStopped s).ru = s.ru ∧ (enterStopped s).sc = s.sc ∧ (enterStopped s).wc = s.wc ∧
    (enterStopped s).fu = s.fu ∧ (enterStopped s).cq = s.cq ∧ (enterStopped s).mem = s.mem ∧
    (enterStopped s).pending = s.pending ∧ (enterStopped s).freeCount = s.freeCount := by
  unfold enterStopped
  dsimp only
  split <;> simp

@[simp] theorem laneStep_frame (s : State) :
    (laneStep s).ru = s.ru ∧ (laneStep s).sc = s.sc ∧ (laneStep s).wc = s.wc ∧ (laneStep s).fu = s.fu ∧
    (laneStep s).cq = s.cq ∧ (laneStep s).mem = s.mem ∧ (laneStep s).pending = s.pending ∧
    (laneStep s).freeCount = s.freeCount := by
  unfold laneStep
  split <;> simp

@[simp] theorem advanceStop_frame (s : State) :
    (advanceStop s).ru = s.ru ∧ (advanceStop s).sc = s.sc ∧ (advanceStop s).mem = s.mem ∧
    (advanceStop s).pending = s.pending ∧ (advanceStop s).freeCount = s.freeCount := by
  unfold advanceStop
  split <;> simp

@[simp] theorem enterStopping_frame (s : State) :
    (enterStopping s).ru = s.ru ∧ (enterStopping s).sc = s.sc ∧ (enterStopping s).mem = s.mem ∧
    (enterStopping s).pending = s.pending ∧ (enterStopping s).freeCount = s.freeCount := by
  simp [enterStopping]

@[simp] theorem beginStart_frame (s : State) :
    (beginStart s).ru = s.ru ∧ (beginStart s).pu = s.pu ∧ (beginStart s).sc = s.sc ∧ (beginStart s).wc = s.wc ∧
    (beginStart s).fu = s.fu ∧ (beginStart s).cq = s.cq ∧ (beginStart s).mem = s.mem ∧
    (beginStart s).pending = s.pending ∧ (beginStart s).freeCount = s.freeCount := by
  unfold beginStart
  split <;> simp

@[simp] theorem failStart_frame (f : StartFault) (s : State) :
    (failStart f s).ru = s.ru ∧ (failStart f s).pu = s.pu ∧ (failStart f s).sc = s.sc ∧
    (failStart f s).wc = s.wc ∧ (failStart f s).fu = s.fu ∧ (failStart f s).cq = s.cq ∧
    (failStart f s).mem = s.mem ∧ (failStart f s).pending = s.pending ∧ (failStart f s).freeCount = s.freeCount := by
  simp [failStart]

@[simp] theorem takeLayout_frame (rd : LayoutReader) (l : LineInputs) (s : State) :
    (takeLayout rd l s).mem = s.mem ∧ (takeLayout rd l s).pending = s.pending ∧
    (takeLayout rd l s).freeCount = s.freeCount := by
  simp [takeLayout]

@[simp] theorem firstWork_frame (s : State) :
    (firstWork s).ru = s.ru ∧ (firstWork s).sc = s.sc ∧ (firstWork s).mem = s.mem ∧
    (firstWork s).pending = s.pending ∧ (firstWork s).freeCount = s.freeCount := by
  unfold firstWork
  simp only [requestFrame_frame, clockRecords_frame]
  refine ⟨?_, ?_, ?_, ?_, ?_⟩ <;> exact foldl_view _ _ (fun s a => by simp) _ _

@[simp] theorem layoutReturned_frame (rd : LayoutReader) (l : LineInputs) (s : State) :
    (layoutReturned rd l s).mem = s.mem ∧ (layoutReturned rd l s).pending = s.pending ∧
    (layoutReturned rd l s).freeCount = s.freeCount := by
  unfold layoutReturned
  split
  · simp
  · split <;> simp

@[simp] theorem layoutFailed_frame (s : State) :
    (layoutFailed s).ru = s.ru ∧ (layoutFailed s).pu = s.pu ∧ (layoutFailed s).sc = s.sc ∧
    (layoutFailed s).wc = s.wc ∧ (layoutFailed s).fu = s.fu ∧ (layoutFailed s).cq = s.cq ∧
    (layoutFailed s).mem = s.mem ∧ (layoutFailed s).pending = s.pending ∧
    (layoutFailed s).freeCount = s.freeCount := by
  simp [layoutFailed]

@[simp] theorem nameAnswered_frame (r : Option NameText) (s : State) :
    (nameAnswered r s).ru = s.ru ∧ (nameAnswered r s).pu = s.pu ∧ (nameAnswered r s).sc = s.sc ∧
    (nameAnswered r s).mem = s.mem ∧ (nameAnswered r s).pending = s.pending ∧
    (nameAnswered r s).freeCount = s.freeCount := by
  simp [nameAnswered]

@[simp] theorem nameAnswered_port (r : Option NameText) (s : State) :
    (nameAnswered r s).xp.run = s.xp.run ∧ (nameAnswered r s).xp.xbase = s.xp.xbase ∧
    (nameAnswered r s).xp.attn = s.xp.attn ∧ (nameAnswered r s).xp.attnen = s.xp.attnen ∧
    (nameAnswered r s).xp.postQueue = s.xp.postQueue ∧ (nameAnswered r s).xp.faultCode = s.xp.faultCode ∧
    (nameAnswered r s).xp.faultIndex = s.xp.faultIndex ∧ (nameAnswered r s).xp.refusedSlot = s.xp.refusedSlot ∧
    (nameAnswered r s).xp.refusal = s.xp.refusal ∧ (nameAnswered r s).xp.faultArea = s.xp.faultArea ∧
    (nameAnswered r s).xp.faultAddr = s.xp.faultAddr ∧
    (nameAnswered r s).xp.stopRequested = s.xp.stopRequested ∧
    (nameAnswered r s).xp.stopStage = s.xp.stopStage ∧ (nameAnswered r s).xp.sheet = s.xp.sheet ∧
    (nameAnswered r s).xp.clampCount = s.xp.clampCount := by
  simp [nameAnswered]

@[simp] theorem stateWordFailed_frame (s : State) :
    (stateWordFailed s).ru = s.ru ∧ (stateWordFailed s).pu = s.pu ∧ (stateWordFailed s).sc = s.sc ∧
    (stateWordFailed s).wc = s.wc ∧ (stateWordFailed s).fu = s.fu ∧ (stateWordFailed s).xp = s.xp ∧
    (stateWordFailed s).mem = s.mem ∧ (stateWordFailed s).pending = s.pending ∧
    (stateWordFailed s).freeCount = s.freeCount := by
  simp [stateWordFailed]

@[simp] theorem accessFailed_frame (a : Access) (s : State) :
    (accessFailed a s).mem = s.mem ∧ (accessFailed a s).pending = s.pending ∧
    (accessFailed a s).freeCount = s.freeCount := by
  unfold accessFailed
  split <;> simp

@[simp] theorem requestFailed_frame (f : InFlight) (s : State) :
    (requestFailed f s).pending = s.pending := by
  unfold requestFailed
  dsimp only
  split <;> simp

@[simp] theorem mayLand_doneWrite : Access.doneWrite.mayLand = false := rfl

theorem mayLand_of_read {a : Access} (h : a.isWrite = false) : a.mayLand = false := by simp [Access.mayLand, h]

/-- A failed request that may leave no byte leaves host memory as it was. -/
theorem requestFailed_mem {f : InFlight} (h : f.req.access.mayLand = false) (s : State) :
    (requestFailed f s).mem = s.mem := by
  simp [requestFailed, h]

@[simp] theorem linkFault_frame (s : State) :
    (linkFault s).pending = s.pending := by
  unfold linkFault
  split <;> simp

/-- What a sample says once something drives the line: the level on it. -/
@[simp] theorem sampled_driven (fn : LineFn) (level : Bool) : fn.sampled level true = level := by
  cases fn <;> simp [LineFn.sampled]

/-- A posting sequence that follows another is a count of 40 bits from 1. -/
theorem nextSequence_range (n : Nat) : 1 ≤ nextSequence n ∧ nextSequence n < 2 ^ 40 := by
  have : n % Config.postingLimit < Config.postingLimit := Nat.mod_lt _ (by decide)
  simp only [nextSequence, Config.postingLimit] at *
  omega

/-- Placing notices leaves the next posting sequence a count of 40 bits from 1. -/
theorem placePosted_range (u : Nat) (ids : List Nat) (seq : Nat) (ns : List Notice) (h : 1 ≤ seq ∧ seq < 2 ^ 40) :
    1 ≤ (placePosted u ids seq ns).2 ∧ (placePosted u ids seq ns).2 < 2 ^ 40 := by
  induction ids generalizing seq ns with
  | nil => exact h
  | cons i is ih =>
    unfold placePosted
    split
    · exact ih _ _ (nextSequence_range seq)
    · exact ih _ _ h

end Sys2Proof.Machine
end

