-- ==== Sys2Proof/Laws/Lanes.lean ====
section
/-! SUPPORT. What the operations of the lanes do to the line records of a lane: handing a record adds it behind those the
lane had, and choosing the next record to send loses none (R112, R127, R129). -/

namespace Sys2Proof.Machine

open Sys2Proof.Safety

/-- The line records of a lane that is there. -/
theorem laneLines_of {s : State} {n : Nat} {l : Lane} (h : s.fu.lanes[n]? = some l) : laneLines s n = lineRecords l := by
  simp [laneLines, h]

/-- A change of lane `n` shows in no other lane. -/
theorem laneLines_onLane_ne {n k : Nat} (h : n ≠ k) (f : Lane → Lane) (s : State) :
    laneLines (onLane n f s) k = laneLines s k := by
  simp [laneLines, onLane, h]

/-- The lane that was changed. -/
theorem onLane_lane {n : Nat} {l : Lane} {s : State} (f : Lane → Lane) (h : s.fu.lanes[n]? = some l) :
    (onLane n f s).fu.lanes[n]? = some (f l) := by
  simp [onLane, h]

@[simp] theorem laneLines_imageRow (p r : Nat) (c : Row) (s : State) (k : Nat) :
    laneLines (imageRow p r c s) k = laneLines s k := rfl

/-- No other lane is touched when a lane chooses its next record. -/
theorem transmitNext_lane_ne {n k : Nat} (h : n ≠ k) (s : State) : laneLines (transmitNext n s) k = laneLines s k := by
  unfold transmitNext acceptRecord
  split
  · rfl
  · split <;> (try split) <;> simp [laneLines_onLane_ne h]

/-- A lane that chooses its next record has the line records it had, in their order. -/
@[simp] theorem transmitNext_laneLines (n k : Nat) (s : State) : laneLines (transmitNext n s) k = laneLines s k := by
  by_cases h : n = k
  · subst h
    cases hl : s.fu.lanes[n]? with
    | none => simp [transmitNext, hl]
    | some l =>
      obtain ⟨q, c, t, w⟩ := l
      rw [laneLines_of hl]
      cases t with
      | some r => simp [transmitNext, hl, laneLines_of hl]
      | none =>
        cases c with
        | cons c cs => simp [transmitNext, hl, lineRecords, laneLines_of (onLane_lane _ hl)]
        | nil =>
          cases q with
          | nil => simp [transmitNext, hl, laneLines_of hl]
          | cons r rs =>
            cases w with
            | nil => simp [transmitNext, hl, lineRecords, laneLines_of (onLane_lane _ hl)]
            | cons x ws =>
              simp [transmitNext, hl, acceptRecord, lineRecords, laneLines_of (onLane_lane _ (onLane_lane _ hl))]
  · exact transmitNext_lane_ne h s

/-- A record that is handed to a lane stands behind the records the lane had, and no other lane is touched. -/
theorem handRecord_laneLines {n : Nat} {s : State} (hn : n < s.fu.lanes.length) (r : LineRec) (k : Nat) :
    laneLines (handRecord n r s) k = laneLines s k ++ if k = n then [r] else [] := by
  have hl : s.fu.lanes[n]? = some s.fu.lanes[n] := List.getElem?_eq_getElem hn
  by_cases h : n = k
  · subst h
    unfold handRecord acceptRecord
    simp only [hl]
    split
    · next hw => simp [lineRecords, laneLines_of hl, laneLines_of (onLane_lane _ hl), hw.1]
    · simp [lineRecords, laneLines_of hl, laneLines_of (onLane_lane _ hl)]
  · unfold handRecord acceptRecord
    simp only [hl]
    split <;> simp [laneLines_onLane_ne h, Ne.symm h]

end Sys2Proof.Machine
end

