-- ==== Sys2Proof/Laws/Link.lean ====
section
/-! SUPPORT. What the arbiter does with requests (R176): one that is made is on the link or waits, the arbiter drops none,
and no operation takes back a request or the one in flight. -/

namespace Sys2Proof.Machine

open Sys2Proof.Safety

/-- The arbiter takes a request that waits. -/
theorem highestRank_mem {l : List MemReq} {b : MemReq} (h : highestRank l = some b) : b ∈ l := by
  induction l generalizing b with
  | nil => simp [highestRank] at h
  | cons a l ih =>
    simp only [highestRank] at h
    split at h
    · simp_all
    · split at h <;> simp_all

/-- With a request waiting, the arbiter takes one. -/
theorem highestRank_eq_none {l : List MemReq} : highestRank l = none ↔ l = [] := by
  cases l with
  | nil => simp [highestRank]
  | cons a l => simp only [highestRank, reduceCtorEq, iff_false]; split <;> (try split) <;> simp

/-- A request that is made is on the link or waits. -/
theorem requested_request (r : MemReq) (s : State) : requested r (request r s) := by
  simp only [requested, request, State.onXp]
  split <;> simp

/-- A request that waits is on the link or waits after the arbiter's choice. -/
theorem requested_releaseLink {r : MemReq} {s : State} (h : r ∈ s.xp.waiting) : requested r (releaseLink s) := by
  simp only [releaseLink, State.onXp, requested]
  split
  · rename_i h'
    rw [highestRank_eq_none] at h'
    simp [h'] at h
  · rename_i b hb
    by_cases e : b = r
    · exact .inl ⟨_, rfl, e⟩
    · exact .inr ((List.mem_erase_of_ne (Ne.symm e)).2 h)

/-- While a request is in flight, a new one waits behind those that wait. -/
theorem request_busy {r : MemReq} {s : State} {f : InFlight} (h : s.xp.inFlight = some f) :
    request r s = { s with xp := { s.xp with waiting := s.xp.waiting ++ [r] } } := by
  simp [request, State.onXp, h]

/-- `t` keeps the request in flight and every waiting request of `s`. -/
def LinkKept (s t : State) : Prop :=
  ∀ f, s.xp.inFlight = some f → t.xp.inFlight = some f ∧ ∀ r ∈ s.xp.waiting, r ∈ t.xp.waiting

theorem LinkKept.refl (s : State) : LinkKept s s := fun _ h => ⟨h, fun _ h => h⟩

theorem LinkKept.trans {s t u : State} (h : LinkKept s t) (k : LinkKept t u) : LinkKept s u := fun f hf =>
  ⟨(k f (h f hf).1).1, fun r hr => (k f (h f hf).1).2 r ((h f hf).2 r hr)⟩

/-- Two states whose link and waiting requests are the same. -/
theorem LinkKept.of_eq {s t : State} (hi : t.xp.inFlight = s.xp.inFlight) (hw : t.xp.waiting = s.xp.waiting) :
    LinkKept s t := fun f hf => ⟨by rw [hi, hf], fun r hr => by rw [hw]; exact hr⟩

theorem request_kept (r : MemReq) (s : State) : LinkKept s (request r s) := fun f hf => by
  rw [request_busy hf]; exact ⟨hf, fun q hq => List.mem_append_left _ hq⟩

theorem beginPublication_kept (s : State) : LinkKept s (beginPublication s) :=
  LinkKept.trans (t := s.onXp fun x =>
      { x with publishCount := count32 x.publishCount, publication := some ⟨.odd, areaBase s, statusContent s⟩ })
    (LinkKept.of_eq rfl rfl) (request_kept _ _)

theorem requestPublication_kept (s : State) : LinkKept s (requestPublication s) := by
  unfold requestPublication
  split
  · exact .of_eq rfl rfl
  · exact beginPublication_kept s

theorem beginClose_kept (c : CloseCauses) (s : State) : LinkKept s (beginClose c s) := by
  unfold beginClose
  split
  · exact .refl s
  · exact request_kept _ _

theorem tryOpenPage_kept (s : State) : LinkKept s (tryOpenPage s) := by
  unfold tryOpenPage
  split
  · exact request_kept _ _
  · exact .refl s

theorem sheetStep_kept (s : State) : LinkKept s (sheetStep s) := by
  unfold sheetStep; split <;> exact .of_eq rfl rfl

theorem frameStep_kept (s : State) : LinkKept s (frameStep s) := by
  unfold frameStep; split <;> exact .of_eq rfl rfl

theorem pageStep_kept (s : State) : LinkKept s (pageStep s) := by
  unfold pageStep
  split
  · split
    · exact .of_eq (by rw [(handBlanks_frame _).2.2.2.2.1]; rfl) (by rw [(handBlanks_frame _).2.2.2.2.1]; rfl)
    · split
      · exact beginClose_kept _ s
      · exact .refl s
  · exact .refl s

theorem enterStopped_kept (s : State) : LinkKept s (enterStopped s) := by
  unfold enterStopped
  dsimp only
  have h : LinkKept s (enterRun .stopped ((forgetContacts s).onXp fun x => { x with stopStage := none })) :=
    .of_eq rfl rfl
  split
  · exact h
  · exact h.trans (requestPublication_kept _)

theorem laneStep_kept (s : State) : LinkKept s (laneStep s) := by
  unfold laneStep
  split
  · exact enterStopped_kept s
  · exact .refl s

/-- The STOPPING sequence takes back no request. -/
theorem advanceStop_kept (s : State) : LinkKept s (advanceStop s) := by
  unfold advanceStop
  split
  · exact (((sheetStep_kept s).trans (frameStep_kept _)).trans (pageStep_kept _)).trans (laneStep_kept _)
  · exact .refl s

/-- A request completes: its block acts, the STOPPING sequence goes on, and the arbiter chooses. -/
theorem complete_awaited {a : Access} {act : MemReq → State → State} {r : MemReq} {s : State} (h : awaited a r s) :
    complete a act s = releaseLink (advanceStop (act r s)) := by
  obtain ⟨f, hf, rfl, ha⟩ := h
  simp [complete, hf, ha]

/-- A request that the block makes while its own is in flight is made in the state that the completion leaves. -/
theorem requested_complete {r : MemReq} {s : State} {f : InFlight} (hf : s.xp.inFlight = some f)
    (hr : r ∈ s.xp.waiting) : requested r (releaseLink (advanceStop s)) :=
  requested_releaseLink ((advanceStop_kept s f hf).2 r hr)

/-- Outside STOPPING the STOPPING sequence does nothing. -/
theorem advanceStop_of_ne {s : State} (h : s.xp.run ≠ .stopping) : advanceStop s = s := by
  simp [advanceStop, h]

end Sys2Proof.Machine
end

