-- ==== Sys2Proof/Laws/Memory.lean ====
section
/-! SUPPORT. Host memory: every operation keeps the canonical form, and a read after a write gives what was written. -/

namespace Sys2Proof.Machine

/-- The canonical form of the rest of a memory, as propositions. -/
theorem wfFrom_cons {lo k : Nat} {b : Byte} {m : List Host.Cell} :
    Memory.wfFrom lo ((k, b) :: m) = true ↔
      lo ≤ k ∧ k < Config.addrModulus ∧ b ≠ Memory.unwritten ∧ Memory.wfFrom (k + 1) m = true := by
  simp [Memory.wfFrom, and_assoc]

/-- The form from an address holds from every lower one. -/
theorem wfFrom_weaken {lo lo' : Nat} {m : List Host.Cell} (h : lo' ≤ lo) (w : Memory.wfFrom lo m = true) :
    Memory.wfFrom lo' m = true := by
  cases m with
  | nil => rfl
  | cons c m =>
    obtain ⟨k, b⟩ := c
    rw [wfFrom_cons] at w ⊢
    exact ⟨by omega, w.2⟩

/-- A write keeps the form. -/
theorem write_wfFrom {lo a : Nat} (b : Byte) {m : List Host.Cell} (ha : lo ≤ a) (hm : a < Config.addrModulus)
    (w : Memory.wfFrom lo m = true) : Memory.wfFrom lo (Memory.write m a b) = true := by
  induction m generalizing lo with
  | nil =>
    unfold Memory.write
    split
    · rfl
    · simp_all [Memory.wfFrom]
  | cons c m ih =>
    obtain ⟨k, d⟩ := c
    rw [wfFrom_cons] at w
    unfold Memory.write
    split_ifs
    · simp_all [wfFrom_cons]
    · simp only [wfFrom_cons]
      exact ⟨ha, hm, by assumption, by omega, w.2.1, w.2.2.1, w.2.2.2⟩
    · exact wfFrom_weaken (by omega) w.2.2.2
    · simp_all [wfFrom_cons]
    · simp only [wfFrom_cons]
      exact ⟨w.1, w.2.1, w.2.2.1, ih (by omega) w.2.2.2⟩

/-- An address on the link is below 2^48. -/
theorem linkAddr_lt (a : Nat) : linkAddr a < Config.addrModulus := Nat.mod_lt _ (by decide)

/-- Writing bytes keeps the canonical form. -/
theorem writeBytes_wf {m : List Host.Cell} (w : Memory.wf m = true) (a : Nat) (bs : List Byte) :
    Memory.wf (Memory.writeBytes m a bs) = true := by
  induction bs generalizing m a with
  | nil => exact w
  | cons b bs ih => exact ih (write_wfFrom b (Nat.zero_le _) (linkAddr_lt a) w) _

/-- A write that met a fault keeps the canonical form, whichever of its bytes landed. -/
theorem writeFaulted_wf {m : List Host.Cell} (w : Memory.wf m = true) (n a : Nat) (bs : List Byte) :
    Memory.wf (Memory.writeFaulted n m a bs) = true := by
  induction bs generalizing m a with
  | nil => exact w
  | cons b bs ih =>
    unfold Memory.writeFaulted
    refine ih ?_ _
    split
    · exact write_wfFrom b (Nat.zero_le _) (linkAddr_lt a) w
    · exact w

/-- What a failed write leaves keeps the canonical form. -/
theorem landFaulted_wf {s : State} (w : Memory.wf s.mem = true) (r : MemReq) :
    Memory.wf (landFaulted r s).mem = true := by
  unfold landFaulted
  dsimp only
  split_ifs
  · exact writeBytes_wf w _ _
  · exact w
  · exact writeFaulted_wf w _ _ _

/-- A failed write of a state word leaves memory as it was or writes the whole word (R164, R186). -/
theorem landFaulted_stateWord {r : MemReq} (h : r.access.isStateWord = true) (s : State) :
    (landFaulted r s).mem = s.mem ∨ (landFaulted r s).mem = Memory.writeBytes s.mem r.addr r.data := by
  unfold landFaulted
  simp only [h, if_true]
  split_ifs <;> simp

/-- Nothing is listed below where the form begins. -/
theorem read_below {lo a : Nat} {m : List Host.Cell} (h : a < lo) (w : Memory.wfFrom lo m = true) :
    Memory.read m a = Memory.unwritten := by
  cases m with
  | nil => rfl
  | cons c m =>
    obtain ⟨k, b⟩ := c
    rw [wfFrom_cons] at w
    unfold Memory.read
    rw [if_neg (by omega), if_pos (by omega)]

/-- A byte just written is what is read there. -/
theorem read_write_same {lo a : Nat} (b : Byte) {m : List Host.Cell} (w : Memory.wfFrom lo m = true) :
    Memory.read (Memory.write m a b) a = b := by
  induction m generalizing lo with
  | nil => unfold Memory.write; split <;> simp_all [Memory.read]
  | cons c m ih =>
    obtain ⟨k, d⟩ := c
    rw [wfFrom_cons] at w
    unfold Memory.write
    split_ifs with h1 h2 h3 h4
    · subst h2; unfold Memory.read; rw [if_neg (by omega), if_pos h1]
    · simp [Memory.read]
    · subst h3; subst h4; exact read_below (by omega) w.2.2.2
    · subst h3; simp [Memory.read]
    · unfold Memory.read
      rw [if_neg (by omega), if_neg (by omega)]
      exact ih w.2.2.2

/-- A write leaves every other address as it was. -/
theorem read_write_other {lo a a' : Nat} (b : Byte) {m : List Host.Cell} (h : a' ≠ a)
    (w : Memory.wfFrom lo m = true) : Memory.read (Memory.write m a b) a' = Memory.read m a' := by
  induction m generalizing lo with
  | nil => unfold Memory.write; split <;> simp [Memory.read]; omega
  | cons c m ih =>
    obtain ⟨k, d⟩ := c
    rw [wfFrom_cons] at w
    unfold Memory.write
    split_ifs with h1 h2 h3 h4
    · rfl
    · by_cases q : a' < a
      · have : Memory.read ((k, d) :: m) a' = Memory.unwritten := by
          unfold Memory.read; rw [if_neg (by omega), if_pos (by omega)]
        rw [this]; unfold Memory.read; rw [if_neg (by omega), if_pos q]
      · conv_lhs => unfold Memory.read
        rw [if_neg (by omega), if_neg q]
    · subst h3
      by_cases q : a' < a
      · rw [read_below (by omega) w.2.2.2]; unfold Memory.read; rw [if_neg (by omega), if_pos q]
      · conv_rhs => unfold Memory.read
        rw [if_neg (by omega), if_neg q]
    · subst h3
      simp [Memory.read, h.symm]
    · unfold Memory.read
      split_ifs
      · rfl
      · rfl
      · exact ih w.2.2.2

/-- The memory of the reset state has the canonical form. -/
theorem reset_mem_wf : Memory.wf State.reset.mem = true := rfl

end Sys2Proof.Machine
end

