-- ==== Sys2Proof/Tests/Slice0.lean ====
section
/-! SUPPORT. Tests: an ill-formed command for each check of WellFormed, small cases worked from the spec's tables and
examples, and for each statement of the obligations with hypotheses a state that meets them (`meets_…`). -/

namespace Sys2Proof.Tests

open Sys2Proof.Machine Sys2Proof.Safety

/-! ### WellFormed -/

theorem test_ctrl_command_is_not_ignored : (Instr.registerWriteIgnored (.ctrl 2#32)).wf = false := by decide
theorem test_unused_below_1C : (Instr.registerWriteIgnored (.unused 0x18 0#32)).wf = false := by decide
theorem test_narrow_of_32_bits : (Instr.registerWriteIgnored (.narrow 0 32 0#32)).wf = false := by decide
theorem test_contact_line_48 : (Instr.contactLevelChange 48 ⟨true, true⟩).wf = false := by decide
theorem test_expiry_platform_0 : (Instr.pendingChangeExpiry 0).wf = false := by decide
theorem test_edge_platform_33 : (Instr.absentEdge 33).wf = false ∧ (Instr.presentEdge 33).wf = false := by decide
theorem test_lane_16 : (Instr.laneTransmissionComplete 16).wf = false := by decide
theorem test_strobe_line_48 : (Instr.strobePulseEnd 48).wf = false := by decide
theorem test_request_id_0 : (Instr.cueRequest (.boarding 0)).wf = false := by decide
theorem test_request_platform_33 : (Instr.cueRequest (.platformChange 1 2 33)).wf = false := by decide
theorem test_request_notice_256 : (Instr.cueRequest (.notice 256)).wf = false := by decide
theorem test_stepped_without_offset : (Instr.cueRequest (.clock .stepped none)).wf = false := by decide
theorem test_set_with_offset : (Instr.cueRequest (.clock .set (some 0))).wf = false := by decide
theorem test_offset_30000 : (Instr.cueRequest (.clock .tracking (some 30000))).wf = false := by decide
theorem test_removal_id_65535 : (Instr.removalRequest [1, 65535]).wf = false := by decide
theorem test_host_write_past_end : (Instr.hostMemoryWrite 0xFFFFFFFFFFFF#48 [0#8, 0#8]).wf = false := by decide

/-! ### Cases worked in the spec -/

/-- The table of R41. -/
theorem test_mark_offsets : [0, 450, 29999, 30000, 55800, 59999].map markOffset = [0, 450, 29999, -30000, -4200, -1] := by
  decide

/-- IDENT of R170 and R172: RUNSTAT shows the refused slot 17 with RANGE in RUNNING. -/
theorem test_registers :
    readRegister State.reset 0 = 0x0D400011#32 ∧ readRegister State.reset 0x1C = 0#32 ∧
      runstatValue { XP.reset with run := .running, refusedSlot := 17, refusal := .range }
        = BitVec.ofNat 32 (2 + 17 * 2 ^ 19 + 3 * 2 ^ 25) := by
  decide

/-- Sheets A, B and C of the worked case of chapter 3 (R65). -/
theorem test_moved_from_lists :
    movedFromAfter 4 9 [] = [4] ∧ movedFromAfter 9 4 [4] = [9] ∧ movedFromAfter 4 6 [9] = [9, 4] := by
  decide

/-- The chatter case of chapter 3 (R57): spacings of 15,000 and 15,001 ms. -/
theorem test_chatter :
    isChatter { PlatformRec.reset with history := [100000, 2, 3, 4, 5, 6, 7, 8] } 220000 = true ∧
      isChatter { PlatformRec.reset with history := [100000, 2, 3, 4, 5, 6, 7, 8] } 220008 = false := by
  decide

/-- The waveform of R137 with duty 600 and a dead time of 20, and at its two ends. -/
theorem test_dim_waveform :
    dimWaveform 600 20 = ⟨some (20, 6000), some (6020, 10000)⟩ ∧ dimWaveform 2 20 = ⟨none, some (40, 10000)⟩ ∧
      dimWaveform 998 20 = ⟨some (20, 9980), none⟩ := by
  decide

/-- Wall times (R2, R30): station time 0 is 03:00 with the default rollover, and day minute -1 is one before. -/
theorem test_wall_times :
    hhmm (wallTime 180 0 / 60000) = [0x30#8, 0x33#8, 0x3A#8, 0x30#8, 0x30#8] ∧ wallMinute (-1) 180 = 179 ∧
      wallTime 180 (21 * 3600000) = 0 := by
  decide

/-- R194: a cleared entry is EMPTY; 0xFFFF ends the phrase codes; a byte below 0x20 ends a text. -/
theorem test_name_entries :
    decodeName (List.replicate 64 0#8) = none ∧
      decodeName
          ([1#8, 2#8, 0xFF#8, 0xFF#8, 3#8, 0#8, 0#8, 0#8] ++ List.replicate 16 0#8 ++ [0x41#8, 0x1F#8]
            ++ List.replicate 38 0x42#8)
        = some ⟨[0x41#8], [], [513]⟩ := by
  decide

/-- The commit of SET_TIME (R48): wall time 02:59:59.999 is the last millisecond of the service day. -/
theorem test_station_time_of_wall : stationTimeOf 10799999 180 = 86399999 ∧ stationTimeOf 10800000 180 = 0 := by decide

/-- The arbiter takes the highest class first (R176). -/
theorem test_arbiter_order :
    highestRank [readReq .tallyHalfRead 0 2, readReq .nameRead 0 64, readReq .stateWordRead 0 4]
      = some (readReq .nameRead 0 64) := by
  decide

/-- The pull-up option (R131): a CONTACT line that nothing drives reads high with it, and as its level without it. -/
theorem test_pull_up :
    (LineFn.contact true).sampled false false = true ∧ (LineFn.contact true).sampled false true = false ∧
      (LineFn.contact false).sampled false false = false := by
  decide

/-- Inactive levels (R132, R135): low on a LANE line, by the option on a STROBE line. -/
theorem test_inactive_levels :
    lineDrive { FU.reset with lines := FU.reset.lines.set 5 ⟨.lane 3, false, none⟩ } 5 = .level false ∧
      lineDrive { FU.reset with lines := FU.reset.lines.set 5 ⟨.strobe true 10, false, none⟩ } 5 = .level true ∧
      lineDrive { FU.reset with lines := FU.reset.lines.set 5 ⟨.strobe true 10, false, some 9⟩ } 5 = .level false := by
  decide

/-- The posting sequence is a 40-bit count from 1 (R95, R96). -/
theorem test_posting_sequence :
    nextSequence 1 = 2 ∧ nextSequence (2 ^ 40 - 2) = 2 ^ 40 - 1 ∧ nextSequence (2 ^ 40 - 1) = 1 := by
  decide

/-- A START that makes the name table smaller drops the misses above it (R104). -/
theorem test_misses_above_the_name_table :
    (newWC (fun off _ => if off = 0x10 then 5 else 0) 0
        { WC.reset with misses := [⟨4, true, false⟩, ⟨5, true, false⟩] }).misses = [⟨4, true, false⟩] := by
  decide

/-- The board of R116: 12 rows with the notice row, 3 of them fixed. -/
def board : BoardCfg := ⟨12, 3, true, 0#32, true, 0xFF#8, 180, 10⟩
/-- A departure of a snapshot, unassigned, with this id and S = 0. -/
def snapped (id : Nat) : SnapDep := ⟨id, 0, 0, .known 0, .listed, none, [], 0, []⟩

/-- The case of R116 with 20 candidates: three pages; page 2 shows candidate 20 in row 4 and none in row 5. -/
theorem test_board_pages :
    let sn : Snapshot := { takeSnapshot .reset with deps := (List.range 20).map (snapped ·) }
    (sn.candidates board).length = 20 ∧ pageCount sn board = 3 ∧ departureRows board = 11 ∧
      (sn.candidates board)[candidateIn board 2 3]? = some (snapped 19) ∧
      (sn.candidates board)[candidateIn board 2 4]? = none ∧
      (sn.candidates board)[candidateIn board 1 10]? = some (snapped 18) := by
  decide +kernel

/-! ### States for the witnesses -/

/-- A state with the part in a run state and XBASE 1. -/
def inRun (r : RunState) (s : State) : State := { s with xp := { s.xp with run := r, xbase := 1#32 } }
/-- RUNNING from reset. -/
def up : State := inRun .running .reset
/-- A state with a request on the link since U = 0. -/
def link (a : Access) (addr len : Nat) (data : List Byte) (s : State) : State :=
  { s with xp := { s.xp with inFlight := some ⟨⟨a, addr, len, data⟩, 0⟩ } }
/-- A state with bytes in host memory. -/
def host (a : Nat) (bs : List Byte) (s : State) : State := { s with mem := Memory.writeBytes s.mem a bs }
/-- A state with a sheet in flight from slot 0. -/
def sheet (ph : SheetPhase) (units : Nat) (s : State) : State :=
  { s with xp := { s.xp with sheet := some ⟨0, ph, ⟨0xFFFF, units, false, 0⟩⟩ } }
/-- A state with its running time and station time set. -/
def timed (u t : Nat) (k : ClockState) (s : State) : State := { s with sc := { s.sc with u := u, t := t, clock := k } }

theorem awaits (a : Access) (addr len : Nat) (data : List Byte) (s : State) :
    awaited a ⟨a, addr, len, data⟩ (link a addr len data s) := ⟨_, rfl, rfl, rfl⟩

/-- The address of slot 0 with XBASE 1. -/
def slot0 : Nat := 0x12000

/-- A departure at platform 1 in BOARDING, its flash end at 5000. -/
def dep : Departure where
  id := 7
  label := [0x41#8]
  kind := 1
  quiet := false
  sched := 10
  delay := .known 0
  announced := .known 0
  reason := none
  dest := 0
  calls := []
  platform := some 1
  movedFrom := [2]
  flashEnd := some 5000
  state := .boarding
  stamp := 0
  boardingCalled := some 1
  closingCalled := false

/-- A state whose roster holds that departure, with two platforms in service. -/
def staffed (s : State) : State :=
  { s with ru := { s.ru with roster := [dep] }, pu := { s.pu with platformCount := 2 } }

/-- A field line with a function on line 0. -/
def wired (f : LineFn) (s : State) : State :=
  { s with fu := { s.fu with lines := s.fu.lines.set 0 ⟨f, false, none⟩ } }

/-- The record of platform 1, on line 0. -/
def platform1 (c : ContactState) (pd : Option Pending) (h : List Nat) (s : State) : State :=
  { s with
    pu :=
      { platformCount := 1
        platforms := s.pu.platforms.set 0 { PlatformRec.reset with line := some 0, contact := c, pending := pd, history := h } } }

/-- A pending cue about the departure, of a kind. -/
def cue (k : CueKind) (s : State) : Cue := { departureCue s k dep with eligible := true }

/-- A state with cues pending. -/
def cued (cs : List Cue) (s : State) : State := { s with cq := { s.cq with queue := cs } }

/-- A state with a page open. -/
def paged (count : Nat) (first : Option Nat) (ph : PagePhase) (s : State) : State :=
  { s with cq := { s.cq with openPage := some ⟨7, 1, count, first, CloseCauses.none, ph⟩ } }

/-- A state with a cue write in progress. -/
def writing (requested : Bool) (s : State) : State :=
  { s with cq := { s.cq with writing := some ⟨cue .departed s, 0, [], [], requested⟩ } }

/-- A state with a tally update in progress. -/
def tallied (st : TallyStep) (s : State) : State :=
  { s with cq := { s.cq with tallyList := [⟨3, 6, 12⟩], tallyStep := some st } }

/-- A state with a notice of this scope, on every wall or about departure 7, posted at U = 0. -/
def noticed (c : Scope) (s : State) : State :=
  { s with ru := { s.ru with notices := [⟨1, c, 0, 0, true, 1, 90, 1, 0, some 0⟩] } }

/-- A state with a publication in progress. -/
def published (ph : PubPhase) (wanted : Bool) (s : State) : State :=
  { s with xp := { s.xp with publication := some ⟨ph, 0, []⟩, publishWanted := wanted, publishCount := 1 } }

theorem empty_roster_order (x : RU) (h : x.roster = []) : RosterInv x :=
  ⟨by simp [h], by simp [h], by simp [h]⟩

theorem empty_roster_platforms (s : State) (h : s.ru.roster = []) : PlatformInv s :=
  ⟨by simp [h], by simp [h], by simp [h]⟩

/-- Departure 7 alone stands as R11 and R68 ask, in a state with two platforms in service. -/
theorem dep_platforms (s : State) (h : s.ru.roster = [dep]) (hc : s.pu.platformCount = 2)
    (ho : closedIn s.ru.closed 1 = false) : PlatformInv s :=
  ⟨by simp [h, hc, dep, ho], by simp [h, dep], by simp [h]⟩

/-- Departure 7 keeps what R65 asks of its moved-from list. -/
theorem dep_moved : MovedFromInv dep := ⟨by decide, by decide, by simp [dep], by decide, by decide, by decide⟩

theorem ok_of {ε α : Type} {x : Except ε α} (h : x.toOption.isSome = true) : ∃ w, x = .ok w := by
  cases x with
  | ok w => exact ⟨w, rfl⟩
  | error e => simp [Except.toOption] at h

theorem ok_with {ε α : Type} {x : Except ε α} {p : α → Bool} (h : x.toOption.any p = true) :
    ∃ w, x = .ok w ∧ p w = true := by
  cases x with
  | ok w => exact ⟨w, rfl, by simpa [Except.toOption] using h⟩
  | error e => simp [Except.toOption] at h

theorem error_of {ε α : Type} {x : Except ε α} (h : x.toOption.isSome = false) : ∃ f, x = .error f := by
  cases x with
  | ok w => simp [Except.toOption] at h
  | error e => exact ⟨e, rfl⟩

/-! ### Witnesses: steps -/

theorem meets_empty_queue :
    State.reset.pending = [] ∧ State.reset.sc.clock = .unset ∧
      (∃ s : State, s.pending = [] ∧ s.sc.clock ≠ .unset ∧ (tick s).sc.u % 100 ≠ 0 ∧ s.sc.t + 1 < 86400000) ∧
      (∃ s : State, s.pending = [] ∧ s.sc.clock ≠ .unset ∧ (tick s).sc.u % 100 = 0 ∧ (tick s).sc.u ≠ 0) ∧
      (∃ s : State, s.pending = [] ∧ s.sc.clock ≠ .unset ∧ (tick s).sc.u % 100 ≠ 0 ∧ s.sc.t + 1 = 86400000) ∧
      ∃ s : State, s.pending = [] ∧ (tick s).sc.u % 1000 = 0 ∧ (tick s).sc.u ≠ 0 :=
  ⟨by decide, by decide, ⟨timed 0 86399998 .tracking .reset, by decide +kernel⟩,
    ⟨timed 99 86399999 .tracking .reset, by decide +kernel⟩, ⟨timed 0 86399999 .tracking .reset, by decide +kernel⟩,
    ⟨timed 999 0 .unset .reset, by decide +kernel⟩⟩

theorem meets_well_formed : (Instr.contactLevelChange 47 ⟨true, false⟩).wf = true := by decide

theorem meets_next_states :
    (∃ t, exec .start State.reset = .next t) ∧ isReset .start = false ∧ writesMemory .start = false ∧
      (∃ t, exec .reset State.reset = .next t) ∧ isReset .reset = true :=
  ⟨⟨_, rfl⟩, rfl, rfl, ⟨_, rfl⟩, rfl⟩

/-! ### Witnesses: host commands -/

theorem meets_start :
    ((inRun .stopped .reset).xp.run = .stopped ∧ (inRun .stopped .reset).xp.xbase ≠ 0) ∧
      (State.reset.xp.run = .stopped ∧ State.reset.xp.xbase = 0) ∧ up.xp.run ≠ .stopped := by decide

theorem meets_stop :
    up.xp.run = .running ∧ (sheet .doneWrite 1 up).xp.sheet ≠ none ∧ (inRun .starting .reset).xp.run = .starting ∧
      (inRun .stopping .reset).xp.run = .stopping := by decide

theorem meets_refused_post :
    State.reset.xp.run ≠ .running ∧ 15 < (16#32).toNat ∧
      16 ≤ ({ up with xp := { up.xp with postQueue := List.replicate 16 15 } } : State).xp.postQueue.length := by decide

theorem meets_post :
    up.xp.run = .running ∧ (15#32).toNat ≤ 15 ∧ up.xp.postQueue.length < 16 ∧ up.xp.sheet = none ∧
      ∃ j, (sheet .unitRead 1 up).xp.sheet = some j := ⟨rfl, by decide, by decide, rfl, _, rfl⟩

theorem meets_runstat :
    up.xp.postQueue.length ≤ 16 ∧ up.xp.faultCode < 16 ∧ up.xp.faultIndex < 256 ∧ up.xp.refusedSlot < 64 := by decide

theorem meets_host_write :
    Memory.wf State.reset.mem = true ∧ (0xFFFFFFFFFFFF#48).toNat + [1#8].length ≤ 2 ^ 48 ∧
      2 ^ 48 < (0xFFFFFFFFFFFF#48).toNat + [1#8, 2#8].length := by decide

/-! ### Witnesses: sheets -/

theorem meets_header :
    (∃ (s : State) (r : MemReq) (j : SheetJob), awaited .headerRead r s ∧ s.xp.sheet = some j ∧
      leNat ((readData r s).take 4) = 1 ∧ s.xp.run ≠ .stopping) ∧
      ∃ (s : State) (r : MemReq) (j : SheetJob), awaited .headerRead r s ∧ s.xp.sheet = some j ∧
        leNat ((readData r s).take 4) ≠ 1 ∧ s.xp.postQueue = [] :=
  ⟨⟨link .headerRead slot0 32 [] (host slot0 [1#8] (sheet .headerRead 0 up)), _, _, awaits .., rfl, by decide +kernel,
      by decide⟩,
    ⟨link .headerRead slot0 32 [] (sheet .headerRead 0 up), _, _, awaits .., rfl, by decide +kernel, rfl⟩⟩

/-- TAKEN is being written for a sheet with this header. -/
def taken (h : SheetHeader) : State :=
  link .takenWrite slot0 4 [2#8] { up with xp := { up.xp with sheet := some ⟨0, .takenWrite, h⟩ } }

theorem meets_taken (h : SheetHeader) :
    ∃ (r : MemReq) (j : SheetJob), awaited .takenWrite r (taken h) ∧ (taken h).xp.sheet = some j ∧ j.header = h ∧
      RosterInv (taken h).ru ∧ PlatformInv (taken h) ∧ (taken h).ru.notices.length ≤ 24 :=
  ⟨_, _, awaits .., rfl, rfl, empty_roster_order _ rfl, empty_roster_platforms _ rfl, (by decide : 0 ≤ 24)⟩

/-- The headers of each clause for a sheet of no unit: another day, another generation, and neither. -/
theorem meets_no_units :
    (1 ≠ 0xFFFF ∧ 1 ≠ (taken ⟨1, 0, false, 0⟩).sc.day) ∧
      ((taken ⟨0, 0, true, 1⟩).sc.day = 0 ∧ 1 ≠ (taken ⟨0, 0, true, 1⟩).ru.generation) ∧
      (taken ⟨0xFFFF, 0, true, 0⟩).ru.generation = 0 := by decide

/-- One unit, the entry CLEAR_ROSTER, has been read. -/
def clearSheet (kind : Byte) : State :=
  link .unitRead (slot0 + 32) 16 [] (host (slot0 + 32) [kind, 1#8] (sheet .unitRead 1 up))

theorem meets_aborted_sheet :
    ∃ (r : MemReq) (j : SheetJob) (f : SheetFailure), awaited .unitRead r (clearSheet 15#8) ∧
      (clearSheet 15#8).xp.sheet = some j ∧
      judgeSheet j.header (some (readData r (clearSheet 15#8))) (clearSheet 15#8) = .error f ∧
      (clearSheet 15#8).xp.run ≠ .stopping :=
  have ⟨f, hf⟩ := error_of (x := judgeSheet ⟨0xFFFF, 1, false, 0⟩
    (some (readData ⟨.unitRead, slot0 + 32, 16, []⟩ (clearSheet 15#8))) (clearSheet 15#8)) (by decide +kernel)
  ⟨_, _, f, awaits .., rfl, hf, by decide⟩

/-- An entry of one unit, in 16 bytes. -/
def unit (bs : List Byte) : List Byte := bs ++ List.replicate (16 - bs.length) 0#8

/-- The units of a sheet have been read. -/
def unitSheet (bs : List Byte) (s : State) : State :=
  link .unitRead (slot0 + 32) bs.length [] (host (slot0 + 32) bs (sheet .unitRead (bs.length / 16) s))

/-- What the port judges of those units. -/
def judged (bs : List Byte) (s : State) : Except SheetFailure Work :=
  judgeSheet ⟨0xFFFF, bs.length / 16, false, 0⟩ (some (readData ⟨.unitRead, slot0 + 32, bs.length, []⟩ (unitSheet bs s)))
    (unitSheet bs s)

/-- A SET_TIME of day 0 and wall time 0. -/
def midnight : List Byte := unit [13#8, 1#8]

theorem meets_committed_sheet :
    (∃ (r : MemReq) (j : SheetJob) (w : Work), awaited .unitRead r (unitSheet (unit [8#8, 1#8]) (staffed up)) ∧
      (unitSheet (unit [8#8, 1#8]) (staffed up)).xp.sheet = some j ∧
      judgeSheet j.header (some (readData r (unitSheet (unit [8#8, 1#8]) (staffed up))))
        (unitSheet (unit [8#8, 1#8]) (staffed up)) = .ok w ∧
      (w.notes.all fun n => n.isSetTime = false) = true) ∧
      ∃ w, judged midnight up = .ok w ∧ decide (w.notes = [.setTime 0 0]) = true :=
  have ⟨w, hw, hn⟩ := ok_with (x := judged (unit [8#8, 1#8]) (staffed up))
    (p := fun w => w.notes.all fun n => n.isSetTime = false) (by decide +kernel)
  ⟨⟨_, _, w, awaits .., rfl, hw, hn⟩, ok_with (by decide +kernel)⟩

/-- Departure 7 stands at platform 1 of two, with one name in the name table. -/
def standing : State := { staffed up with wc := { up.wc with nameSize := 1 } }

/-- Single entries in their units (R189): at least one of each kind, and what each is read as. The ids, the names and the
platforms lie on both sides of what `standing` holds. -/
def entries : List (List Byte × Entry) :=
  [(unit [1#8, 2#8, 8#8, 0#8, 0x9F#8, 5#8, 7#8, 1#8] ++ unit [0x42#8], .add 8 1439 7 true false 0 0 0 [0x42#8]),
   (unit [1#8, 2#8, 0xFF#8, 0xFF#8] ++ unit [], .add 65535 0 0 false false 0 0 0 []),
   (unit [1#8, 2#8, 7#8] ++ unit [], .add 7 0 0 false false 0 0 0 []),
   (unit [2#8, 2#8, 7#8, 0#8, 2#8] ++ unit [], .setCalls 7 [0, 0]),
   (unit [2#8, 2#8, 7#8, 0#8, 1#8] ++ unit [1#8], .setCalls 7 [1]),
   (unit [3#8, 1#8, 7#8, 0#8, 0xD0#8, 2#8, 0xFF#8, 0xFF#8], .setDelay 7 720 none),
   (unit [4#8, 1#8, 7#8, 0#8, 2#8], .setPlatform 7 2),
   (unit [4#8, 1#8, 7#8], .setPlatform 7 0),
   (unit [4#8, 1#8, 7#8, 0#8, 3#8], .setPlatform 7 3),
   (unit [5#8, 1#8, 7#8, 0#8, 0#8, 0#8, 0#8, 0#8], .cancel 7 (some 0)),
   (unit [6#8, 1#8, 7#8], .reinstate 7), (unit [6#8, 1#8, 8#8], .reinstate 8),
   (unit [7#8, 1#8, 7#8], .withdraw 7), (unit [8#8, 1#8], .clearRoster)]

/-- Single entries about notices, platforms, the clock and names. -/
def otherEntries : List (List Byte × Entry) :=
  [(unit [9#8, 1#8, 1#8, 3#8, 7#8, 0#8, 3#8, 1#8, 0#8, 0#8, 61#8], .postNotice 1 3 7 3 0 true 61 0),
   (unit [9#8, 1#8, 1#8, 2#8, 3#8], .postNotice 1 2 3 0 0 false 0 0),
   (unit [9#8, 1#8, 1#8, 4#8], .postNotice 1 4 0 0 0 false 0 0),
   (unit [10#8, 1#8, 1#8], .endNotice 1), (unit [10#8, 1#8], .endNotice 0),
   (unit [11#8, 1#8, 2#8, 1#8], .closure 2 true), (unit [11#8, 1#8, 1#8, 1#8], .closure 1 true),
   (unit [11#8, 1#8, 3#8], .closure 3 false), (unit [12#8, 1#8, 1#8], .restoreContact 1),
   (unit [12#8, 1#8, 3#8], .restoreContact 3), (midnight, .setTime 0 0),
   (unit [13#8, 1#8, 0xFF#8, 0xFF#8], .setTime 65535 0), (unit [14#8, 1#8], .flushNames 0),
   (unit [14#8, 1#8, 0xFF#8, 0xFF#8], .flushNames 0xFFFF), (unit [14#8, 1#8, 1#8], .flushNames 1)]

/-- The structure check of units that have been read. -/
def structureOf (bs : List Byte) (s : State) : Except Nat (List Entry) :=
  checkStructure (bs.length / 16) (readData ⟨.unitRead, slot0 + 32, bs.length, []⟩ (unitSheet bs s))

theorem reads_of {s : State} {bs : List Byte} {es : List Entry} (h : (structureOf bs s).toOption = some es) :
    ∃ (r : MemReq) (j : SheetJob), SheetReads (unitSheet bs s) r j es :=
  have he : structureOf bs s = .ok es := by
    cases hx : structureOf bs s with
    | ok x => simpa [hx, Except.toOption] using h
    | error x => simp [hx, Except.toOption] at h
  ⟨_, _, awaits .., rfl, he, .inl rfl, .inl rfl⟩

theorem entries_are_read :
    ∀ x ∈ entries ++ otherEntries, (structureOf x.1 standing).toOption = some [x.2] := by decide +kernel

theorem meets_entries : ∀ x ∈ entries ++ otherEntries, ∃ (r : MemReq) (j : SheetJob),
    SheetReads (unitSheet x.1 standing) r j [x.2] ∧ RosterInv (unitSheet x.1 standing).ru ∧
      PlatformInv (unitSheet x.1 standing) ∧ (∀ d ∈ (unitSheet x.1 standing).ru.roster, MovedFromInv d) ∧
      (unitSheet x.1 standing).ru.notices.length ≤ 24 ∧
      ((unitSheet x.1 standing).ru.notices.map (·.id)).Nodup ∧
      (unitSheet x.1 standing).pu.platformCount ≤ (unitSheet x.1 standing).ru.closed.length ∧
      (unitSheet x.1 standing).pu.platformCount ≤ (unitSheet x.1 standing).pu.platforms.length := fun x hx =>
  have ⟨r, j, h⟩ := reads_of (entries_are_read x hx)
  have order : RosterInv standing.ru := ⟨by decide, by decide, by decide⟩
  ⟨r, j, h, order, dep_platforms _ rfl rfl (by decide : closedIn standing.ru.closed 1 = false),
    (fun _ hd => List.mem_singleton.1 hd ▸ dep_moved : ∀ d ∈ [dep], MovedFromInv d),
    (by decide : standing.ru.notices.length ≤ 24), (by decide : (standing.ru.notices.map (·.id)).Nodup),
    (by decide : standing.pu.platformCount ≤ standing.ru.closed.length),
    (by decide : standing.pu.platformCount ≤ standing.pu.platforms.length)⟩

/-- The platform change of departure 7 is called, with a frame in flight and room in the queue (R65). -/
theorem meets_platform_call :
    changesPlatform dep (some 2) = true ∧ dep.quiet = false ∧
      ({ standing with wc := { standing.wc with frame := some ⟨1, true, takeSnapshot up, [], [], true⟩ } } : State).wc.frame
        ≠ none ∧
      standing.cq.queue.length < 32 := by decide

/-- R80 and R86 in small: ADD of id 7 is a duplicate, and WITHDRAW of id 8 unknown. -/
theorem test_entry_codes :
    (match judged (unit [1#8, 2#8, 7#8] ++ unit []) standing with | .error f => f.code.number | .ok _ => 0) = 7 ∧
      (match judged (unit [7#8, 1#8, 8#8]) standing with | .error f => f.code.number | .ok _ => 0) = 6 := by decide +kernel

theorem meets_result_and_done :
    (∃ (s : State) (r : MemReq) (j : SheetJob), awaited .resultWrite r s ∧ s.xp.sheet = some j) ∧
      (∃ (s : State) (r : MemReq) (j : SheetJob), awaited .doneWrite r s ∧ s.xp.sheet = some j ∧ s.xp.postQueue = []) ∧
      ∃ (s : State) (r : MemReq) (j : SheetJob) (n : Nat) (rest : List Nat), awaited .doneWrite r s ∧
        s.xp.sheet = some j ∧ s.xp.postQueue = n :: rest ∧ s.xp.run = .running :=
  ⟨⟨link .resultWrite slot0 16 [] (sheet .resultWrite 1 up), _, _, awaits .., rfl⟩,
    ⟨link .doneWrite slot0 4 [] (sheet .doneWrite 1 up), _, _, awaits .., rfl, rfl⟩,
    ⟨link .doneWrite slot0 4 [] (sheet .doneWrite 1 { up with xp := { up.xp with postQueue := [15] } }), _, _, 15, [],
      awaits .., rfl, rfl, rfl⟩⟩

/-- A failed DONE write leaves the slot TAKEN in memory (R74, R174). -/
theorem test_failed_done_write :
    (match exec .memoryFault (link .doneWrite slot0 4 [3#8, 0#8, 0#8, 0#8] (host slot0 [2#8] (sheet .doneWrite 1 up))) with
      | .next t => Memory.read t.mem slot0
      | _ => 0#8) = 2#8 := by decide +kernel

/-- A unit that removes departure 7. -/
def withdraw7 : List Byte := [7#8, 1#8, 7#8, 0#8] ++ List.replicate 12 0#8

theorem meets_day_and_guard :
    (∃ es, checkStructure 1 withdraw7 = .ok es) ∧ (1 ≠ 0xFFFF ∧ 1 ≠ State.reset.sc.day) ∧
      (State.reset.sc.day = 0 ∧ 1 ≠ State.reset.ru.generation) ∧
      ∃ f, judgeSheet ⟨0, 1, true, 0⟩ (some withdraw7) State.reset = .error f :=
  ⟨ok_of (by decide +kernel), by decide, by decide, error_of (by decide +kernel)⟩

theorem meets_platform_change :
    (∃ r : WorkDep, r.dep.platform = some 1 ∧ MovedFromInv r.dep ∧ (1 ≠ 3) ∧ r.dep.state ≠ .cancelled) ∧
      (∃ r : WorkDep, r.dep.platform = none ∧ r.dep.state ≠ .cancelled) ∧
      ∃ r : WorkDep, r.dep.state = .cancelled ∧ none ≠ r.dep.platform :=
  ⟨⟨⟨dep, none, false, false, false⟩, rfl, dep_moved, by decide, by decide⟩,
    ⟨⟨{ dep with platform := none }, none, false, false, false⟩, rfl, by decide⟩,
    ⟨{ dep with state := .cancelled }, none, false, false, false⟩, rfl, by decide⟩

/-! ### Witnesses: the layout -/

/-- A layout of one platform without a contact line, no panel, one name and no tally. -/
def layoutBytes : List Byte :=
  [0x44#8, 0x57#8, 0x34#8, 0x4C#8, 1#8, 0#8, 1#8, 0#8] ++ List.replicate 8 0#8 ++ [1#8]

/-- The layout read of that layout has been made. -/
def starting : State :=
  link .layoutRead 0x10000 8192 [] (host 0x10140 [0xFF#8] (host 0x10000 layoutBytes (inRun .starting .reset)))

theorem meets_failed_start :
    (∃ (s : State) (r : MemReq), awaited .layoutRead r s ∧ s.xp.run = .starting ∧ s.xp.stopRequested = true) ∧
      ∃ (s : State) (r : MemReq), awaited .layoutRead r s ∧ s.xp.run = .starting ∧ s.xp.stopRequested = false ∧
        checkLayout (layoutAt s.mem r.addr) = some ⟨3, 0⟩ :=
  ⟨⟨link .layoutRead 0x10000 8192 []
        { inRun .starting .reset with xp := { (inRun .starting .reset).xp with stopRequested := true } },
      _, awaits .., rfl, rfl⟩,
    ⟨link .layoutRead 0x10000 8192 [] (inRun .starting .reset), _, awaits .., rfl, rfl, by decide +kernel⟩⟩

/-- The layout read of that layout has been made, with a line of each function, platform 1 on line 0, and a clock panel with
seconds on lane 15. -/
def startingLines : State :=
  host 0x10007 [1#8] <| host 0x10140 [0#8, 1#8] <| host 0x10340 [2#8, 15#8, 0#8, 1#8] <|
  host 0x102C0 [5#8, 0#8, 0#8, 0#8, 6#8] (host 0x10240
    [1#8, 1#8, 0#8, 0#8, 2#8, 2#8, 0#8, 0#8, 3#8, 15#8, 0#8, 0#8, 4#8, 1#8, 5#8, 0#8] (host 0x10300 [0xFF#8] starting))

theorem meets_layout (s : State) (h : s = starting ∨ s = startingLines) :
    ∃ (r : MemReq) (rd : LayoutReader), rd = layoutAt s.mem r.addr ∧ awaited .layoutRead r s ∧ s.xp.run = .starting ∧
      s.xp.stopRequested = false ∧ checkLayout rd = none ∧ s.wc.frame = none ∧ s.wc.frameWanted = false := by
  rcases h with h | h <;> subst h <;> exact ⟨_, _, rfl, awaits .., rfl, rfl, by decide +kernel, rfl, rfl⟩

theorem meets_layout_lines :
    let rd := layoutAt startingLines.mem 0x10000
    [0, 1, 2, 3, 4, 32, 33].map (layoutFn rd)
        = [.contact true, .mark .both, .lane 15, .strobe true 5, .idle, .dimTrue, .dimComp] ∧
      layoutOption rd 0x140 1 = some 0 ∧ rd 0x06 1 = 1 ∧ startingLines.fu.lines[0]? = some FieldLine.reset ∧
      startingLines.fu.dims[0]? = some Dim.reset ∧
      (newWC rd 0 startingLines.wc).panels = [layoutPanel rd 0 0] ∧ (layoutPanel rd 0 0).kind = .clock true ∧
      (layoutPanel rd 0 0).lane = 15 ∧ 15 < startingLines.fu.lanes.length := by decide +kernel

/-! ### Witnesses: the roster -/

/-- Departure 7 in another state, alone in the roster, at U = 61,000 and T = 600,000, its scheduled time. -/
def aged (st : DepState) (s : State) : State :=
  timed 61000 600000 .tracking { staffed s with ru := { s.ru with roster := [{ dep with state := st }] } }

theorem meets_evaluation (st : DepState) :
    ((aged st up).ru.roster.map (·.id)).Nodup ∧ (aged st up).xp.run = .running ∧ (aged st up).sc.clock ≠ .unset ∧
      ((aged st up).sc.u % 1000 = 0 ∧ (aged st up).sc.u ≠ 0) ∧
      (aged st up).ru.roster = [] ++ { dep with state := st } :: [] ∧ (aged st State.reset).xp.run ≠ .running ∧
      atRunningTick State.reset = false := by
  cases st <;> decide

/-- At its scheduled time departure 7 may board when LISTED, closes when BOARDING, and by the time rules has 60 s left; one
that departed at U = 0 is gone (R15, R16, R18, R23). -/
theorem meets_transitions (t : State) :
    mayBoard (aged .listed up) { dep with state := .listed } 1 ∧
      platformFree (aged .listed up) t 1 [] [] ∧
      knownAtMost (countdown (aged .boarding up) dep) ((aged .boarding up).ru.par.close * 1000) = true ∧
      timeRuled (aged .boarding up) dep = true ∧
      knownAtMost (countdown (aged .boarding up) dep) (-((aged .boarding up).ru.par.grace * 1000 : Nat)) = false ∧
      0 + (aged .departed up).ru.par.gone * 1000 ≤ (aged .departed up).sc.u ∧
      0 ≤ (600000 : Int) - (aged .cancelled up).sc.t :=
  ⟨⟨by decide, by decide⟩, ⟨by simp, by simp⟩, by decide, by decide, by decide, by decide, by decide⟩

/-- What a running tick makes of departure 7 in a state: its state, the next creation sequence (1 at reset), and the
frames begun. -/
def ticked (st : DepState) (s : State) : Option (Option DepState × Nat × Nat) :=
  match exec .runningTick (aged st s) with
  | .next t => some ((findDep t 7).map (·.state), t.cq.nextSeq, t.wc.framesStarted)
  | _ => none

/-- A pass with a CLOSING call, one with a RETIRED report, and one that makes no transition (R7, R13, R16, R22). -/
theorem test_cues_of_a_pass :
    ticked .boarding up = some (some .closing, 2, 1) ∧ ticked .departed up = some (none, 2, 1) ∧
      ticked .cancelled up = some (some .cancelled, 1, 0) := by decide +kernel

theorem meets_flash_end :
    atRunningTick (timed 5000 0 .unset (staffed up)) = true ∧ atRunningTick State.reset = false ∧
      (timed 4000 0 .unset (staffed up)).xp.run = .running ∧
      (∃ d ∈ (timed 5000 0 .unset (staffed up)).ru.roster, ∃ e, d.flashEnd = some e ∧ e ≤ 5000) ∧
      ∀ d ∈ (timed 4000 0 .unset (staffed up)).ru.roster, ∀ e, d.flashEnd = some e → 4000 < e :=
  ⟨by decide, by decide, rfl, by simp [timed, staffed, dep], by simp [timed, staffed, dep]⟩

/-- A notice spoken every minute, which expires after 90 s. -/
def notice : Notice := ⟨1, .wall, 0, 0, true, 1, 90, 1, 0, some 0⟩

/-- That notice alone, at a running time in RUNNING. -/
def noticeAt (u : Nat) : State := timed u 0 .unset { up with ru := { up.ru with notices := [notice] } }

theorem meets_notices :
    (atRunningTick (noticeAt 60000) = true ∧ ((noticeAt 60000).ru.notices.map (·.id)).Nodup ∧
      (noticeAt 60000).xp.run = .running ∧ repeatDue (noticeAt 60000).sc.u notice = true ∧
      noticeAloud (noticeAt 60000) notice = true) ∧
      atRunningTick (noticeAt 90000) = true ∧
      ¬ (notice.durationS = 0 ∨ (noticeAt 90000).sc.u < 0 + notice.durationS * 1000) :=
  ⟨⟨by decide, by decide, rfl, by decide, by decide⟩, by decide, by decide⟩

/-- The boarding departure of platform 1, early or at its time, with a frame in flight and room in the queue. -/
theorem meets_edges :
    boardingAt State.reset.ru.roster 1 = none ∧ boardingAt (staffed up).ru.roster 1 = some dep ∧
      (staffed up).xp.run = .running ∧ (staffed State.reset).xp.run ≠ .running ∧
      knownAbove (countdown (timed 0 0 .tracking (staffed up)) dep) ((staffed up).ru.par.depart * 1000) = true ∧
      knownAbove (countdown (staffed up) dep) ((staffed up).ru.par.depart * 1000) = false ∧
      (staffed { up with wc := { up.wc with frame := some ⟨1, true, takeSnapshot up, [], [], true⟩ } }).wc.frame ≠ none ∧
      (staffed up).wc.frameWanted = false ∧ (staffed up).cq.queue.length < 32 := by
  decide

/-! ### Witnesses: the clock -/

/-- A state at a slew point, with its station time and pending slew. -/
def slewing (t : Nat) (p : Int) : State :=
  { State.reset with sc := { State.reset.sc with u := 100, t := t, clock := .tracking, slew := p } }

/-- Advances: within a second, across a second, across a minute, to the end of the day by 1 and past it by 2, and by
DAY_ROLLOVER; and the two that are not due. -/
theorem meets_advances :
    ((slewing 86399997 (-30000)).sc.u % 100 = 0 ∧ (slewing 86399997 (-30000)).sc.u ≠ 0 ∧
      (slewing 86399997 (-30000)).sc.clock ≠ .unset ∧ (slewing 86399997 (-30000)).sc.t + 0 < 86400000) ∧
      (slewing 998 30000).sc.t / 1000 ≠ ((slewing 998 30000).sc.t + 2) / 1000 ∧
      (slewing 59999 0).sc.t / 60000 ≠ ((slewing 59999 0).sc.t + 1) / 60000 ∧
      86400000 ≤ (slewing 86399999 1).sc.t + 2 ∧ 86400000 ≤ (slewing 86399999 0).sc.t + 1 ∧
      ((timed 1 86399999 .tracking State.reset).sc.clock ≠ .unset ∧
        (timed 1 86399999 .tracking State.reset).sc.t = 86399999) ∧
      ((staffed State.reset).ru.roster.map (·.id)).Nodup ∧
      (timed 1 86399998 .tracking State.reset).sc.t + 1 ≠ 86400000 ∧
      ((timed 100 0 .unset State.reset).sc.u % 100 = 0 ∧ (timed 100 0 .unset State.reset).sc.clock = .unset) := by decide

/-- The end of the day within a slew (R34, R43): two ms from 86,399,999 leave 1 ms of the next day. -/
theorem test_slew_across_the_day :
    (match exec .slewPoint (slewing 86399999 1) with
      | .next t => (t.sc.t, t.sc.day, t.sc.slew)
      | _ => (0, 0, 0)) = (1, 1, 0) := by decide

theorem meets_holdover :
    ∃ s : State, s.sc.clock = .tracking ∧ (∃ m, s.sc.lastMark = some m ∧ m + 150000 ≤ s.sc.u) :=
  ⟨{ State.reset with sc := { State.reset.sc with u := 150000, clock := .tracking, lastMark := some 0 } }, rfl, 0, rfl,
    by decide⟩

theorem meets_holdover_not_due :
    ∃ s : State, s.sc.clock = .tracking ∧ ∀ m, s.sc.lastMark = some m → s.sc.u < m + 150000 :=
  ⟨{ State.reset with sc := { State.reset.sc with u := 149999, clock := .tracking, lastMark := some 0 } }, rfl,
    fun m h => by cases h; exact (by decide : 149999 < 0 + 150000)⟩

/-- A state with a MARK line, low, and the clock set. -/
def marked (u t : Nat) (k : Option Int) : State :=
  wired (.mark .rising) { State.reset with sc := { State.reset.sc with u := u, t := t, clock := .tracking, candidate := k } }

theorem meets_mark :
    markLine (marked 1 3000 none).fu.lines = some (0, .rising, !true) ∧ MarkEdge.rising.admits true = true ∧
      markAccepted (marked 1 3000 none) = true ∧
      (markOffset (marked 1 3000 none).sc.t).natAbs ≤ (marked 1 3000 none).sc.stepLimit ∧
      (marked 1 3000 none).sc.clock = .tracking ∧
      markAccepted (wired (.mark .rising) State.reset) = false := by decide +kernel

theorem meets_step :
    markLine (marked 1 3001 none).fu.lines = some (0, .rising, !true) ∧ markAccepted (marked 1 3001 none) = true ∧
      (marked 1 3001 none).sc.stepLimit < (markOffset (marked 1 3001 none).sc.t).natAbs ∧
      (marked 1 86370000 (some (-29000))).sc.candidate = some (-29000) ∧
      (markOffset (marked 1 86370000 (some (-29000))).sc.t - (-29000)).natAbs ≤ 1000 ∧
      (marked 1 86370000 (some (-29000))).sc.stepLimit
        < (markOffset (marked 1 86370000 (some (-29000))).sc.t).natAbs := by decide +kernel

/-! ### Witnesses: frames, lanes, names -/

/-- A frame in flight. -/
def frame : Frame := ⟨1, true, takeSnapshot up, [], [], true⟩

theorem meets_frames :
    (∃ s : State, s.sc.clock ≠ .unset ∧ s.xp.run = .running ∧ s.wc.frame ≠ none) ∧
      (∃ s : State, (∃ l, s.wc.lastSnapshot = some l ∧ l + s.wc.framePeriod ≤ s.sc.u) ∧ s.xp.run = .running ∧
        s.wc.frame = none ∧ s.wc.frameWanted = false) ∧ State.reset.xp.run ≠ .running :=
  ⟨⟨timed 1 1 .tracking { up with wc := { up.wc with frame := some frame } }, by decide, rfl, by simp [timed]⟩,
    ⟨timed 500 0 .unset { up with wc := { up.wc with lastSnapshot := some 0 } }, ⟨0, rfl, by decide⟩, rfl, rfl, rfl⟩,
    by decide⟩

/-- A strip on lane 15 and a WALL notice of name 0, which the cache holds or not; the sent image holds nothing. -/
def strip (cache : List NameEntry) : State :=
  { noticed .wall up with
    wc := { up.wc with panels := [⟨.strip, 15, 2, [none], 0, 0⟩], nameSize := 1, cache := cache } }

/-- A frame that has its name at once hands the strip's row to lane 15 and ends; one that awaits it stays in NAMES (R111 to
R113). -/
theorem test_frames_emit :
    (match exec .frameRequest (strip [⟨0, ⟨[0x41#8], [], []⟩⟩]) with
      | .next t => (laneLines t 15, t.wc.panels.map (·.image), t.wc.frame.isSome)
      | _ => ([], [], true))
        = ([⟨0, 2, 1, plainText [[0x41#8]]⟩], [[some (plainText [[0x41#8]])]], false) ∧
      (match exec .frameRequest (strip []) with
        | .next t => (laneLines t 15, t.wc.frame.map (·.awaiting))
        | _ => ([], none))
        = ([], some [0]) := by decide +kernel

/-- The panels of each clause: a board with a notice row and paged rows, a closed platform, one with a notice of priority 0,
and one with neither. -/
theorem meets_panels :
    (board.noticeRow = true ∧ 1 ≤ board.rows ∧ fixedRows board < departureRows board) ∧
      (let sn : Snapshot := { takeSnapshot .reset with closed := [1], notices := [⟨1, .platform 2, 0, 0⟩] }
       1 ∈ sn.closed ∧ 2 ∉ sn.closed ∧
         (sn.notices.find? fun x => x.scope = .platform 2 ∧ x.priority = 0) = some ⟨1, .platform 2, 0, 0⟩ ∧
         3 ∉ sn.closed ∧ ∀ x ∈ sn.notices, x.scope = .platform 3 → x.priority ≠ 0) := by decide

theorem meets_station_seconds :
    (timed 1 1 .tracking State.reset).sc.clock ≠ .unset ∧ (timed 1 1 .tracking State.reset).xp.run ≠ .running ∧
      (timed 1 1 .tracking (staffed up)).xp.run = .running ∧ State.reset.sc.clock = .unset := by decide

theorem meets_clock_records :
    ∃ (s : State) (p : Panel), s.sc.clock ≠ .unset ∧ s.ru.roster = [] ∧ p ∈ s.wc.panels ∧ p.kind = .clock true ∧
      p.lane < s.fu.lanes.length ∧
      ∀ q ∈ s.wc.panels, ∀ b, q.kind = .clock b → q.lane = p.lane → q.addr = p.addr → b = true :=
  ⟨timed 1 1 .tracking { up with wc := { up.wc with panels := [⟨.clock true, 15, 0, [], 0, 0⟩] } },
    ⟨.clock true, 15, 0, [], 0, 0⟩, by decide, rfl, by simp [timed], rfl, by decide, by simp [timed]⟩

/-- A lane that sends, with records behind. -/
def busyLane (c : List ClockRec) (f w : List LineRec) : State :=
  { up with fu := { up.fu with lanes := up.fu.lanes.set 15 ⟨f, c, some (.clock ⟨0, [], false⟩), w⟩ } }

theorem meets_lane (c : List ClockRec) (f w : List LineRec) :
    (busyLane c f w).fu.lanes[15]? = some ⟨f, c, some (.clock ⟨0, [], false⟩), w⟩ ∧
      (busyLane c f w).xp.run ≠ .stopping ∧ (busyLane c f w).wc.frame = none :=
  ⟨by simp [busyLane, up, inRun, State.reset, FU.reset], by simp [busyLane, up, inRun], rfl⟩

/-- A blank row for row 1 of panel 0. -/
def blankRecord : LineRec := ⟨0, 0, 1, blankRow⟩

/-- A frame is in flight and lane 15 holds its records. -/
def emitting (w : List LineRec) : State :=
  { busyLane [] [blankRecord] w with wc := { up.wc with framesStarted := 1, frame := some frame } }

/-- The lane step waits for lane 15. -/
def blanking (w : List LineRec) : State :=
  { busyLane [] [blankRecord] w with xp := { up.xp with run := .stopping, stopStage := some .lane } }

theorem meets_lane_in_a_run :
    ((emitting [blankRecord, blankRecord]).xp.run ≠ .stopping ∧ (emitting [blankRecord, blankRecord]).wc.frame = some frame ∧
      ∃ k ∈ (transmissionDone 15 (emitting [blankRecord, blankRecord])).fu.lanes, k.waiting ≠ []) ∧
      (blanking [blankRecord, blankRecord]).xp.stopStage = some .lane ∧
      ∃ k ∈ (transmissionDone 15 (blanking [blankRecord, blankRecord])).fu.lanes, k.waiting ≠ [] := by
  decide +kernel

/-- The last record of a frame is accepted, and the last name of a frame comes that has no row to send. -/
theorem meets_frame_completion :
    ((∃ l, (emitting [blankRecord]).fu.lanes[15]? = some l ∧ l.sending ≠ none) ∧ (emitting [blankRecord]).xp.run = .running ∧
      (transmissionDone 15 (emitting [blankRecord])).wc.frame = some frame ∧ frame.emitting = true ∧
      ∀ l ∈ (transmissionDone 15 (emitting [blankRecord])).fu.lanes, l.waiting = []) ∧
      ∃ (s : State) (r : MemReq) (f : Frame), awaited .nameRead r s ∧ s.xp.run = .running ∧
        (progressNames (nameReturned (decodeName (readData r s)) s)).wc.frame = some f ∧ f.emitting = true ∧
        ∀ l ∈ (progressNames (nameReturned (decodeName (readData r s)) s)).fu.lanes, l.waiting = [] :=
  ⟨⟨⟨_, rfl, by simp⟩, rfl, by decide +kernel, rfl, by decide +kernel⟩,
    ⟨link .nameRead 0 64 []
        { up with
          wc :=
            { up.wc with
              framesStarted := 1, frame := some { frame with awaiting := [3], emitting := false }
              fetch := some ⟨⟨3, true, false⟩, false⟩ } },
      _, { frame with copies := [(3, blankName)] }, awaits .., rfl, by decide +kernel, rfl, by decide +kernel⟩⟩

/-- A wanted frame, an eligible cue with a page open, and one with none: the clauses that a completion goes into. -/
theorem meets_completion_clauses :
    ({ emitting [blankRecord] with wc := { (emitting [blankRecord]).wc with frameWanted := true } } : State).wc.frameWanted
        = true ∧
    mayTakeCue (paged 1 none .filling up) = true ∧ mayTakeCue up = false ∧
      (cued [{ cue .departed up with ticket := 1 }] up).cq.queue.any (fun k => k.ticket = (up.wc.framesCompleted + 1) % 2 ^ 32)
        = true := by decide

/-- The part is at a step of STOPPING. -/
def stopAt (g : StopStage) (s : State) : State := { s with xp := { s.xp with run := .stopping, stopStage := some g } }

theorem meets_stopping_steps :
    (stopAt .sheet up).xp.run = .stopping ∧ (stopAt .sheet (sheet .doneWrite 1 up)).xp.sheet ≠ none ∧
      (stopAt .sheet up).xp.sheet = none ∧ (stopAt .frame (emitting [])).wc.frame ≠ none ∧
      (stopAt .frame up).wc.frame = none ∧ (stopAt .page (writing true up)).cq.writing ≠ none ∧
      ((stopAt .page (paged 1 none (.closing 0 0) up)).cq.attempt = none ∧
        (stopAt .page (paged 1 none (.closing 0 0) up)).cq.writing = none) ∧
      (stopAt .page up).cq.openPage = none ∧ (stopAt .lane up).xp.stopStage = some .lane ∧
      (∀ l ∈ (stopAt .lane up).fu.lanes, l.waiting = []) ∧ (stopAt .lane up).xp.xbase ≠ 0 := by decide

theorem meets_stopping_ends :
    (∃ r, awaited .doneWrite r (stopAt .sheet (link .doneWrite slot0 4 [] (sheet .doneWrite 1 up)))) ∧
      ∃ r, awaited .closedWrite r (stopAt .page (link .closedWrite 0x1D000 4 [] (paged 1 none (.closing 0 0) up))) :=
  ⟨⟨_, _, rfl, rfl, rfl⟩, _, _, rfl, rfl, rfl⟩

/-- A name read of an entry whose byte 24 is `b`, with misses that wait. -/
def nameRead (b : Byte) (once : Bool) (ms : List Miss) : State :=
  link .nameRead 0 64 []
    (host 24 [b] { up with wc := { up.wc with fetch := some ⟨⟨3, true, true⟩, once⟩, misses := ms } })

theorem meets_name_read (ms : List Miss) :
    (∃ (r : MemReq) (f : Fetch), awaited .nameRead r (nameRead 0x41#8 false ms) ∧
      (nameRead 0x41#8 false ms).wc.fetch = some f ∧ (nameRead 0x41#8 false ms).wc.misses = ms ∧
      (nameRead 0x41#8 false ms).wc.frame = none ∧ (nameRead 0x41#8 false ms).xp.run ≠ .stopping ∧ f.once = false ∧
      cacheFind f.miss.idx (nameRead 0x41#8 false ms).wc.cache = none ∧
      (decodeName (readData r (nameRead 0x41#8 false ms))).isSome = true) ∧
      ∃ (r : MemReq) (f : Fetch), awaited .nameRead r (nameRead 0#8 true ms) ∧
        (nameRead 0#8 true ms).wc.fetch = some f ∧ f.once = true ∧
        decodeName (readData r (nameRead 0#8 true ms)) = none :=
  ⟨⟨_, _, awaits .., rfl, rfl, rfl, (by decide : up.xp.run ≠ .stopping), rfl, rfl,
      (by decide +kernel : (decodeName (readData ⟨.nameRead, 0, 64, []⟩ (nameRead 0x41#8 false []))).isSome = true)⟩,
    _, _, awaits .., rfl, rfl,
    (by decide +kernel : decodeName (readData ⟨.nameRead, 0, 64, []⟩ (nameRead 0#8 true [])) = none)⟩

/-- A frame and a cue await name 3, the frame also name 5 or not, with a page open that takes cues. -/
def namesAwaited (more : List Nat) : State :=
  { paged 1 none .filling (nameRead 0x41#8 false []) with
    wc :=
      { (nameRead 0x41#8 false []).wc with
        framesStarted := 1, frame := some { frame with awaiting := 3 :: more, emitting := false } }
    cq :=
      { (paged 1 none .filling up).cq with writing := some ⟨cue .departed up, 0, [], [3], false⟩ } }

/-- The misses that the fetcher reads next, and the states in which a frame goes on waiting or emits; in STOPPING as well.
-/
theorem meets_name_delivery :
    [(⟨4, false, true⟩ : Miss), ⟨5, true, false⟩].find? (·.composer) = some ⟨5, true, false⟩ ∧
      ([(⟨4, false, true⟩ : Miss)].find? (·.composer) = none ∧ [(⟨4, false, true⟩ : Miss)].head? = some ⟨4, false, true⟩) ∧
      (namesAwaited []).wc.frame = some { frame with awaiting := [3], emitting := false } ∧
      (namesAwaited [5]).wc.frame = some { frame with awaiting := [3, 5], emitting := false } ∧
      (namesAwaited []).cq.writing.map (·.awaiting) = some [3] ∧
      (∃ r, awaited .nameRead r (namesAwaited [])) ∧ ∃ r, awaited .nameRead r (stopAt .frame (namesAwaited [])) :=
  ⟨by decide, by decide, rfl, rfl, rfl, ⟨_, _, rfl, rfl, rfl⟩, _, _, rfl, rfl, rfl⟩

/-- The name goes to the cue, whose record is then written (R157), and into the cache (R123). -/
theorem test_name_delivery :
    (match exec .nameReadComplete (namesAwaited []) with
      | .next t => (t.cq.writing.map fun w => (w.copies.map (·.1), w.requested), t.wc.cache.map (·.idx), t.wc.frame.isSome)
      | _ => (none, [], true))
      = (some ([3], true), [3], false) := by decide +kernel

/-! ### Witnesses: contacts, lines, brightness -/

theorem meets_contact_level (c : ContactState) (pd : Option Pending) :
    ∃ (s : State) (l : FieldLine) (pull : Bool), s.fu.lines[0]? = some l ∧ l.fn = .contact pull ∧
      platformOfLine s 0 = some 1 ∧ 1 ≤ s.pu.platforms.length ∧ s.xp.run = .running ∧ (platformRec s 1).contact = c ∧
      (platformRec s 1).pending = pd :=
  ⟨wired (.contact true) (platform1 c pd [] up), _, true, rfl, rfl, rfl, (by decide : 1 ≤ 32), rfl, rfl, rfl⟩

/-- The level held is low: a high sample, and a low one that nothing drives with the pull-up set, change it. -/
theorem meets_samples :
    (wired (.contact true) up).fu.lines[0]? = some ⟨.contact true, false, none⟩ ∧ (true || (true && !true)) = !false ∧
      (false || (true && !false)) = !false ∧ (false || (true && !true)) = false := by decide

theorem meets_pending_expiry (c : ContactState) (b : Bool) (h : List Nat) :
    ∃ (s : State) (pd : Pending), s.xp.run = .running ∧ 1 ≤ s.pu.platformCount ∧ 1 ≤ s.pu.platforms.length ∧
      (platformRec s 1).pending = some pd ∧ pd.since + (platformRec s 1).filter ≤ s.sc.u ∧
      (platformRec s 1).contact = c ∧ pd.present = b ∧ (platformRec s 1).history = h :=
  ⟨timed 2000 0 .unset (platform1 c (some ⟨b, 0⟩) h up), ⟨b, 0⟩, rfl, (by decide : 1 ≤ 1),
    (by decide : 1 ≤ 32), rfl, (by decide : 0 + 2000 ≤ 2000), rfl, rfl, rfl⟩

/-- Dim channel 0 configured, its duty as given. -/
def dimmed (duty : Nat) (s : State) : State :=
  { s with
    fu :=
      { s.fu with
        lines := (s.fu.lines.set 32 ⟨.dimTrue, false, none⟩).set 33 ⟨.dimComp, false, none⟩
        dims := s.fu.dims.set 0 ⟨DimParams.defaults, duty, none⟩ } }

theorem meets_ramp :
    ∃ (s : State) (d : Dim), s.sc.u % 1000 = 0 ∧ s.sc.u ≠ 0 ∧ s.fu.dims[0]? = some d ∧ s.xp.run = .running ∧
      dimConfigured s.fu.lines 0 = true ∧ dimConfigured s.fu.lines 1 = false ∧ d.duty < dimTarget s d.par :=
  ⟨timed 1000 0 .unset (dimmed 490 up), _, by decide, by decide, rfl, rfl, by decide, by decide, by decide⟩

theorem meets_dim_period (duty : Nat) :
    (dimmed duty up).fu.dims[0]? = some ⟨DimParams.defaults, duty, none⟩ ∧
      dimConfigured (dimmed duty up).fu.lines 0 = true ∧ dimConfigured (dimmed duty up).fu.lines 3 = false ∧
      (dimmed 0 State.reset).xp.run ≠ .running ∧ DutyInv (dimmed 0 State.reset) :=
  ⟨rfl, rfl, rfl, by decide, by decide, by decide⟩

theorem meets_sensors_and_strobes :
    (timed 100 0 .unset State.reset).sc.u % 100 = 0 ∧ (timed 100 0 .unset State.reset).sc.u ≠ 0 ∧
      (timed 100 0 .unset State.reset).fu.sensors[3]? = some [] ∧
      lineFn ({ State.reset.fu with lines := State.reset.fu.lines.set 40 ⟨.analog, false, none⟩ } : FU).lines 40 = .analog ∧
      (wired (.strobe false 10) State.reset).fu.lines[0]? = some ⟨.strobe false 10, false, none⟩ := by decide

/-! ### Witnesses: cues -/

/-- Departure 7, quiet, with a notice about it. -/
def hushed : State :=
  noticed (.departure 7) { up with ru := { up.ru with roster := [{ dep with quiet := true }] } }

theorem meets_no_cue :
    (∃ d, findDep hushed 7 = some d ∧ d.quiet = true) ∧ findDep (staffed up) 9 = none ∧
      (∃ n, findNotice hushed 1 = some n ∧ n.scope = .departure 7) ∧ findNotice up 1 = none ∧
      findDep (staffed up) 7 = some dep ∧ dep.quiet = false ∧
      ∃ c ∈ (cued [cue .cancellation up] (staffed up)).cq.queue, c.kind = .cancellation ∧ isCallOf [7] c = true :=
  ⟨⟨_, rfl, rfl⟩, by decide, ⟨_, rfl, rfl⟩, rfl, by decide, rfl, cue .cancellation up, by simp [cued], rfl, by decide⟩

/-- A state with `n` pending cues and the departure. -/
def crowded (n : Nat) : State := cued (List.replicate n (cue .retired up)) (staffed up)

theorem meets_new_cue (n : Nat) :
    ∃ c : Cue, cueOf (crowded n) (.departed 7) = some c ∧
      (crowded n).cq.queue.any (removesOnly (crowded n) (.departed 7)) = false ∧ (crowded n).cq.queue.length = n ∧
      ((crowded n).cq.queue.filter fun x => !supersedes c x).length = n :=
  ⟨departureCue (crowded n) .departed dep, rfl, by simp [crowded, cued, removesOnly, List.any_replicate],
    by simp [crowded, cued],
    by
      have h : supersedes (departureCue (crowded n) .departed dep) (cue .retired up) = false := rfl
      simp [crowded, cued] at h ⊢
      simp [h]⟩

/-- The order of a full queue: its last cue is as urgent as a new DEPARTED cue, and less urgent than a CANCELLATION. -/
theorem meets_cue_order (n : Nat) :
    (crowded n).cq.queue.Pairwise (fun a b => a.priority ≤ b.priority) ∧
      (crowded 32).cq.queue.getLast? = some (cue .retired up) ∧
      (cue .retired up).priority ≤ (departureCue up .departed dep).priority ∧
      (∃ c, cueOf (crowded 32) (.cancellation 7) = some c ∧ c.priority < (cue .retired up).priority) ∧
      ∃ c, cueOf (crowded 32) (.clock .set none) = some c ∧ c.kind = .clock :=
  ⟨by simp [crowded, cued, List.pairwise_replicate], by decide +kernel, by decide, ⟨_, rfl, by decide⟩, _, rfl, rfl⟩

/-! ### Witnesses: pages, tallies, the status page -/

/-- The page at the cursor has the state word `w`, and a cue waits. -/
def triedPage (w : Byte) (cs : List Cue) : State := link .stateWordRead 0x16000 4 [] (host 0x16000 [w] (cued cs up))

theorem meets_state_word :
    (∃ r : MemReq, awaited .stateWordRead r (triedPage 2#8 []) ∧ (triedPage 2#8 []).xp.run = .running ∧
      leNat (readData r (triedPage 2#8 [])) ≠ 0) ∧
      (∃ r : MemReq, awaited .stateWordRead r (triedPage 0#8 []) ∧ leNat (readData r (triedPage 0#8 [])) = 0 ∧
        (triedPage 0#8 []).cq.queue.any (·.eligible) = false) ∧
      ∃ (r : MemReq) (c : Cue), awaited .stateWordRead r (triedPage 0#8 [cue .departed up]) ∧
        leNat (readData r (triedPage 0#8 [cue .departed up])) = 0 ∧
        (triedPage 0#8 [cue .departed up]).cq.queue.find? (·.eligible) = some c :=
  ⟨⟨_, awaits .., rfl, by decide +kernel⟩, ⟨_, awaits .., by decide +kernel, rfl⟩, _, _, awaits .., by decide +kernel, rfl⟩

theorem meets_retry :
    ∃ s : State, s.cq.attempt = some (.retry 250) ∧ 250 ≤ s.sc.u ∧
      mayTryOpen { s with cq := { s.cq with attempt := none } } = true :=
  ⟨timed 250 0 .unset
      { cued [cue .departed up] up with cq := { (cued [cue .departed up] up).cq with attempt := some (.retry 250) } },
    rfl, by decide, by decide⟩

theorem meets_retry_without_cue :
    ∃ s : State, s.cq.attempt = some (.retry 0) ∧ 0 ≤ s.sc.u ∧
      mayTryOpen { s with cq := { s.cq with attempt := none } } = false :=
  ⟨{ up with cq := { up.cq with attempt := some (.retry 0) } }, rfl, by decide, by decide⟩

theorem meets_hold (w : Option CueWrite) :
    ∃ (s : State) (p : OpenPage), s.cq.openPage = some p ∧ p.phase = .filling ∧ p.firstCue = some 0 ∧
      0 + s.cq.holdTime ≤ s.sc.u ∧ s.cq.writing = w :=
  ⟨timed 500 0 .unset
      { paged 1 (some 0) .filling up with cq := { (paged 1 (some 0) .filling up).cq with writing := w } },
    _, rfl, rfl, rfl, (by decide : 500 ≤ 500), rfl⟩

theorem meets_record (n : Nat) :
    ∃ (s : State) (r : MemReq) (w : CueWrite) (p : OpenPage), awaited .recordWrite r s ∧ s.xp.run = .running ∧
      s.cq.writing = some w ∧ s.cq.openPage = some p ∧ p.count = n ∧ w.cue.priority ≠ 0 ∧ p.causes.hold = false ∧
      s.sc.u < p.firstCue.getD s.sc.u + s.cq.holdTime :=
  ⟨link .recordWrite 0x1D040 160 [] (writing true (paged n none .filling up)), _, _, _, awaits .., rfl, rfl, rfl, rfl,
    (by decide : (1 : Nat) ≠ 0), rfl, (by decide : 0 < 0 + 500)⟩

/-- The tally list with `n` entries, and the tally size. -/
def tallies (n size : Nat) (s : State) : State :=
  { s with cq := { s.cq with tallyOrigin := 64, tallySize := size, tallyList := List.replicate n ⟨3, 70, 800⟩ } }

/-- A record write whose cue is urgent, one whose page has noted HOLD, and one at the hold time; and the cases of the tally
list for a cue of code 231 (kind 7 with no platform would be 231; departure 7 stands at platform 1, so 232). -/
theorem meets_record_closes :
    (∃ (s : State) (r : MemReq) (w : CueWrite) (p : OpenPage), awaited .recordWrite r s ∧ s.xp.run = .running ∧
      s.cq.writing = some w ∧ s.cq.openPage = some p ∧ w.cue.priority = 0 ∧ p.causes.hold = true ∧
      p.firstCue.getD s.sc.u + s.cq.holdTime ≤ s.sc.u) ∧
      tallyCode (cue .departed up) = 232 ∧ (up.cq.tallyOrigin = 0 ∧ (tallies 0 232 up).cq.tallyOrigin ≠ 0) ∧
      (tallies 0 232 up).cq.tallySize ≤ 232 ∧ 232 < (tallies 31 233 up).cq.tallySize ∧
      (tallies 31 233 up).cq.tallyList.length < 32 ∧ 32 ≤ (tallies 32 233 up).cq.tallyList.length :=
  ⟨⟨link .recordWrite 0x1D040 160 []
        (timed 500 0 .unset
          { up with
            cq :=
              { up.cq with
                writing := some ⟨{ cue .departed up with priority := 0 }, 0, [], [], true⟩
                openPage := some ⟨7, 1, 1, some 0, { CloseCauses.none with hold := true }, .filling⟩ } }),
      _, _, _, awaits .., rfl, rfl, rfl, rfl, rfl, (by decide : 0 + 500 ≤ 500)⟩,
    by decide, by decide, by decide, by decide, by decide, by decide⟩

/-- After a record write the writer takes an eligible cue, or finds none. -/
theorem meets_next_take :
    (cued [cue .departed up] up).cq.queue.find? (·.eligible) = some (cue .departed up) ∧
      up.cq.queue.find? (·.eligible) = none := by decide

theorem meets_page_writes (a : Access) (ph : PagePhase) :
    ∃ (s : State) (r : MemReq) (p : OpenPage) (w : CueWrite), s.cq.openPage = some p ∧ s.xp.run = .running ∧
      awaited a r s ∧ p.phase = ph ∧ s.cq.writing = some w ∧ w.awaiting = [] ∧ w.requested = false :=
  ⟨link a 0x1D000 4 [1#8] (writing false (paged 1 none ph up)), _, _, _, rfl, rfl, awaits .., rfl, rfl, rfl, rfl⟩

theorem meets_strobe_lines :
    (wired (.strobe true 255) up).fu.lines[0]? = some ⟨.strobe true 255, false, none⟩ ∧
      (wired (.strobe true 255) up).fu.lines[1]? = some FieldLine.reset := by decide

/-- A tally access on the link, with the halfword 65535 or 0 in memory. -/
def tallyAccess (a : Access) (st : TallyStep) (h : Byte) : State := link a 6 2 [] (host 6 [h, h] (tallied st up))

theorem meets_tally (a : Access) (st : TallyStep) (h : Byte) :
    ∃ (r : MemReq) (e : TallyEntry) (rest : List TallyEntry), (tallyAccess a st h).cq.tallyList = e :: rest ∧
      awaited a r (tallyAccess a st h) ∧ (tallyAccess a st h).cq.tallyStep = some st ∧
      (tallyAccess a st h).xp.run ≠ .stopping :=
  ⟨_, _, _, rfl, awaits .., rfl, by simp [tallyAccess, link, host, tallied, up, inRun]⟩

theorem meets_tally_carry :
    leNat (readData ⟨.tallyHalfRead, 6, 2, []⟩ (tallyAccess .tallyHalfRead .readHalf 0xFF#8)) = 65535 ∧
      leNat (readData ⟨.tallyHalfRead, 6, 2, []⟩ (tallyAccess .tallyHalfRead .readHalf 0#8)) ≠ 65535 := by decide +kernel

theorem meets_publication (a : Access) (ph : PubPhase) (wanted : Bool) :
    ∃ (s : State) (r : MemReq) (p : Publication), s.xp.publication = some p ∧ awaited a r s ∧ p.phase = ph ∧
      s.xp.run ≠ .stopping ∧ s.xp.publishWanted = wanted :=
  ⟨link a 0x1E000 4 [] (published ph wanted up), _, _, rfl, awaits .., rfl, by simp [link, published, up, inRun], rfl⟩

/-- The even count is being written in STOPPING. -/
theorem meets_publication_stopping :
    ∃ (s : State) (r : MemReq) (p : Publication), s.xp.publication = some p ∧ awaited .publishCountWrite r s ∧
      p.phase = .even ∧ s.xp.run = .stopping :=
  ⟨stopAt .sheet (link .publishCountWrite 0x1E000 4 [] (published .even false up)), _, _, rfl, ⟨_, rfl, rfl, rfl⟩, rfl, rfl⟩

/-- Every block has something in progress that an access may serve. -/
def engaged (ph : PagePhase) : State :=
  { paged 1 none ph (sheet .doneWrite 1 (published .odd true up)) with
    wc := { up.wc with fetch := some ⟨⟨3, false, true⟩, false⟩ }
    cq :=
      { (paged 1 none ph up).cq with
        writing := some ⟨cue .departed up, 0, [], [3, 3], false⟩, tallyList := [⟨3, 6, 12⟩] } }

theorem meets_memory_fault (a : Access) (ph : PagePhase) :
    ∃ (s : State) (f : InFlight), s.xp.inFlight = some f ∧ f.req.access = a ∧ f.since + 50 ≤ s.sc.u ∧
      s.xp.run = .running ∧ s.xp.sheet ≠ none ∧ s.xp.postQueue = [] ∧ s.wc.frame = none ∧ s.wc.misses = [] ∧
      (∃ p, s.cq.openPage = some p ∧ p.phase = ph) ∧ s.xp.publication ≠ none ∧ s.xp.publishWanted = true ∧
      ∃ g w, s.wc.fetch = some g ∧ g.miss.sequencer = true ∧ s.cq.writing = some w ∧ g.miss.idx ∈ w.awaiting :=
  ⟨timed 50 0 .unset (link a 0 4 [] (engaged ph)), _, rfl, rfl, (by decide : 0 + 50 ≤ 50), rfl,
    by simp [timed, link, engaged, paged, sheet], rfl, rfl, rfl, ⟨_, rfl, rfl⟩,
    by simp [timed, link, engaged, paged, sheet, published], rfl, _, _, rfl, rfl, rfl, List.mem_cons_self⟩

theorem meets_fault_with_posts :
    ({ sheet .doneWrite 1 up with xp := { (sheet .doneWrite 1 up).xp with postQueue := [15] } } : State).xp.postQueue
      = 15 :: [] ∧ Memory.wf up.mem = true := by decide

theorem meets_memory_wait :
    ∃ (s : State) (f : InFlight), s.xp.inFlight = some f ∧ s.sc.u < f.since + 50 :=
  ⟨timed 49 0 .unset (link .nameRead 0 64 [] up), _, rfl, by decide⟩

/-! ### Witnesses: invariants -/

/-- A state in which each invariant says something: a departure boarding, a byte in memory, a duty, a full page, a clock
record that waits. -/
def lively : State :=
  timed 4000 1000 .holdover
    (staffed
      (dimmed 500
        (paged 16 (some 3500) (.closing 0 0)
          { host 0 [1#8] up with
            xp := { up.xp with publishCount := 1, publication := some ⟨.odd, 0, []⟩ }
            wc :=
              { up.wc with framesStarted := 1, frame := some frame, panels := [⟨.clock true, 15, 3, [], 0, 0⟩] }
            fu := (busyLane [⟨3, [], false⟩] [] []).fu })))

theorem meets_invariants : ∃ t, step lively = .next t := ⟨_, rfl⟩

theorem meets_memory_form : Memory.wf lively.mem = true ∧ Memory.read lively.mem 0 = 1#8 := by decide +kernel

theorem meets_clock_ranges : ClockInv lively.sc :=
  ⟨by decide, by decide, by decide, by decide, by decide, by decide, by decide, by decide⟩

theorem meets_layout_reads : LayoutInv lively.xp ∧ LayoutInv starting.xp ∧ layoutReads starting.xp = 1 :=
  ⟨(by decide : layoutReads lively.xp ≤ 0), (by decide : layoutReads starting.xp ≤ 1), by decide⟩

theorem meets_duty_range : DutyInv lively := ⟨by decide, by decide⟩

theorem meets_publish_parity : PublishInv lively.xp := ⟨by decide, by decide⟩

theorem meets_roster_order : RosterInv lively.ru := ⟨by decide, by decide, by decide⟩

theorem meets_platform_rule : PlatformInv lively :=
  ⟨by
    intro d hd p hp
    have h : d = dep := by simpa [lively, timed, staffed] using hd
    subst h
    have hp : p = 1 := by simpa [dep] using hp.symm
    subst hp
    decide,
    by decide, by decide⟩

theorem meets_frame_counts : FrameInv lively.wc :=
  ⟨by decide, by simp [lively, timed, staffed, dimmed, paged],
    by
      intro f hf
      have h : frame = f := by simpa [lively, timed, staffed, dimmed, paged] using hf
      subst h
      decide⟩

theorem meets_moved_from : ∀ d ∈ lively.ru.roster, MovedFromInv d := by
  intro d hd
  have h : d = dep := by simpa [lively, timed, staffed] using hd
  exact h ▸ dep_moved

/-- The lanes of that state: lane 15 alone holds a clock record, of its one clock panel. -/
theorem lively_clocks (n : Nat) (l : Lane) (h : lively.fu.lanes[n]? = some l) :
    l.clockQueue.length ≤ 2 ∧ (l.clockQueue.map (·.addr)).Nodup ∧
      ∀ r ∈ l.clockQueue, ∃ p ∈ lively.wc.panels, clockOn n p = true ∧ p.addr = r.addr := by
  have hn : n < 16 := by
    have hl : lively.fu.lanes.length = 16 := rfl
    exact hl ▸ (List.getElem?_eq_some_iff.1 h).1
  have all : ∀ n < 16, ∀ l ∈ lively.fu.lanes[n]?, l.clockQueue.length ≤ 2 ∧ (l.clockQueue.map (·.addr)).Nodup ∧
      ∀ r ∈ l.clockQueue, ∃ p ∈ lively.wc.panels, clockOn n p = true ∧ p.addr = r.addr := by decide +kernel
  exact all n hn l h

theorem meets_queue_bounds : QueueInv lively :=
  ⟨by decide, by decide, by decide, by decide, by decide, by decide, by decide, by decide, by decide, by decide,
    fun _ => (List.length_filter_le ..).trans (by decide : 1 ≤ 2), lively_clocks⟩

theorem meets_page_bound : PageInv lively.cq :=
  ⟨by simp [lively, timed, staffed, dimmed, paged], by simp [lively, timed, staffed, dimmed, paged],
    by simp [lively, timed, staffed, dimmed, paged]⟩

end Sys2Proof.Tests
end

