-- ==== Sys2Proof/Proofs/Memory.lean ====
section
/-! The host memory (R1): what reads find after a write of several bytes, the form that every step keeps (O51), the
commands that leave memory alone (O5) and the host's own writes (O11). -/

namespace Sys2Proof.Machine

open Sys2Proof.Safety

/-! ### Reads after a write of several bytes -/

/-- An address within 48 bits is itself on the link. -/
theorem linkAddr_of_lt {a : Nat} (h : a < Config.addrModulus) : linkAddr a = a := Nat.mod_eq_of_lt h

/-- Bytes written leave every address that none of them stands at. -/
theorem read_writeBytes_other {m : List Host.Cell} (w : Memory.wf m = true) (a k : Nat) (bs : List Byte)
    (h : ∀ i < bs.length, k ≠ linkAddr (a + i)) : Memory.read (Memory.writeBytes m a bs) k = Memory.read m k := by
  induction bs generalizing m a with
  | nil => rfl
  | cons b bs ih =>
    have head : k ≠ linkAddr a := h 0 (Nat.succ_pos _)
    have tail : ∀ i < bs.length, k ≠ linkAddr (a + 1 + i) := fun i hi => by
      rw [Nat.add_right_comm]; exact h (i + 1) (Nat.succ_lt_succ hi)
    calc Memory.read (Memory.writeBytes (Memory.write m (linkAddr a) b) (a + 1) bs) k
        = Memory.read (Memory.write m (linkAddr a) b) k :=
          ih (write_wfFrom b (Nat.zero_le _) (linkAddr_lt a) w) (a + 1) tail
      _ = Memory.read m k := read_write_other b head w

/-- Bytes written within 48 bits of address leave every address before and after them. -/
theorem read_writeBytes_outside {m : List Host.Cell} (w : Memory.wf m = true) {a k : Nat} {bs : List Byte}
    (fits : a + bs.length ≤ Config.addrModulus) (h : k < a ∨ a + bs.length ≤ k) :
    Memory.read (Memory.writeBytes m a bs) k = Memory.read m k :=
  read_writeBytes_other w a k bs fun i hi => by rw [linkAddr_of_lt (by omega)]; omega

/-- Bytes written within 48 bits of address read as written: no later byte covers an earlier one. -/
theorem read_writeBytes_at {m : List Host.Cell} (w : Memory.wf m = true) {a i : Nat} {b : Byte} {bs : List Byte}
    (fits : a + bs.length ≤ Config.addrModulus) (h : bs[i]? = some b) :
    Memory.read (Memory.writeBytes m a bs) (a + i) = b := by
  induction bs generalizing m a i with
  | nil => simp at h
  | cons c bs ih =>
    rw [List.length_cons] at fits
    have la : linkAddr a = a := linkAddr_of_lt (by omega)
    have w' : Memory.wf (Memory.write m (linkAddr a) c) = true := write_wfFrom c (Nat.zero_le _) (linkAddr_lt a) w
    unfold Memory.writeBytes
    cases i with
    | zero =>
      obtain rfl : c = b := by simpa using h
      calc Memory.read (Memory.writeBytes (Memory.write m (linkAddr a) c) (a + 1) bs) a
          = Memory.read (Memory.write m (linkAddr a) c) a :=
            read_writeBytes_outside w' (by omega) (.inl (Nat.lt_add_one a))
        _ = c := by rw [la]; exact read_write_same c w
    | succ i =>
      rw [← Nat.add_assoc, Nat.add_right_comm]
      exact ih w' (by omega) h

/-! ### What the ends of memory requests do to memory -/

/-- A write that the link has accepted puts its bytes in host memory (log 5). -/
@[simp] theorem landWrite_mem (r : MemReq) (s : State) :
    (landWrite r s).mem = Memory.writeBytes s.mem r.addr r.data := rfl

/-- What holds of memory before a completion and after the act of the block holds after the completion: going on in
STOPPING and choosing the next request leave memory alone. -/
theorem complete_mem (p : List Host.Cell → Prop) {a : Access} {act : MemReq → State → State} {s : State}
    (before : p s.mem) (after : ∀ r, p (act r s).mem) : p (complete a act s).mem := by
  unfold complete
  split
  · split
    · simpa using after _
    · exact before
  · exact before

/-- A completed read leaves memory alone when what the block does with the data does. -/
theorem complete_onData_mem {a : Access} {act : List Byte → State → State} (h : ∀ bs t, (act bs t).mem = t.mem)
    (s : State) : (complete a (onData act) s).mem = s.mem :=
  complete_mem (· = s.mem) rfl fun r => h (readData r s) s

/-- A completed write keeps the canonical form when what the block does after it leaves memory alone. -/
theorem complete_onLanded_wf {a : Access} {act : State → State} (h : ∀ t, (act t).mem = t.mem) {s : State}
    (w : Memory.wf s.mem = true) : Memory.wf (complete a (onLanded act) s).mem = true :=
  complete_mem (Memory.wf · = true) w fun r => by
    rw [onLanded, h, landWrite_mem]; exact writeBytes_wf w r.addr r.data

/-- A failed request keeps the canonical form, whatever its write left. -/
theorem requestFailed_wf {s : State} (w : Memory.wf s.mem = true) (f : InFlight) :
    Memory.wf (requestFailed f s).mem = true := by
  cases h : f.req.access.mayLand with
  | false => rw [requestFailed_mem h]; exact w
  | true => simpa [requestFailed, h] using landFaulted_wf w f.req

theorem linkFault_wf {s : State} (w : Memory.wf s.mem = true) : Memory.wf (linkFault s).mem = true := by
  unfold linkFault
  split
  · exact requestFailed_wf w _
  · exact w

/-! ### Commands -/

/-- The commands that do not write host memory leave it as it was: a read that completes hands its data to a block, and every
other command runs one operation of the blocks, most of them under a condition. -/
theorem exec_mem_of_not_writesMemory {c : Instr} {s t : State} (h : exec c s = .next t)
    (hc : writesMemory c = false) : t.mem = s.mem := by
  cases c with
  | takenWriteComplete | resultWriteComplete | doneWriteComplete | openWriteComplete | cueRecordWriteComplete
  | pageHeaderWriteComplete | closedWriteComplete | tallyHalfwordWriteComplete | tallyWordWriteComplete
  | publishCountWriteComplete | publishContentWriteComplete | memoryFault | memoryRequestTimeout | hostMemoryWrite =>
    cases hc
  | headerReadComplete | fetchCompletion | nameReadComplete | stateWordReadComplete | tallyHalfwordReadComplete
  | tallyWordReadComplete =>
    obtain rfl := Host.Outcome.next.inj h
    exact complete_onData_mem (by simp) s
  | layoutReadComplete inputs =>
    obtain rfl := Host.Outcome.next.inj h
    exact complete_mem (· = s.mem) rfl fun r => (layoutReturned_frame _ inputs s).1
  | reset | powerOnReset | attnWrite | attnenWrite | registerWriteIgnored | presentEdge =>
    obtain rfl := Host.Outcome.next.inj h
    rfl
  | stop | cueRequest | pendingChangeExpiry =>
    obtain rfl := Host.Outcome.next.inj h
    split <;> simp
  | _ =>
    obtain rfl := Host.Outcome.next.inj h
    simp [apply_ite State.mem]

/-- A host write that fits the address space puts its bytes in memory and touches nothing else. -/
theorem exec_hostMemoryWrite_of_fits {a : Addr} {bs : List Byte} (fits : a.toNat + bs.length ≤ Config.addrModulus)
    (s : State) :
    exec (.hostMemoryWrite a bs) s = .next (s.onMem fun m => Memory.writeBytes m a.toNat bs) :=
  if_pos fits

/-- A host write past the last address stops the machine (log 7). -/
theorem exec_hostMemoryWrite_of_past {a : Addr} {bs : List Byte} (past : Config.addrModulus < a.toNat + bs.length)
    (s : State) : exec (.hostMemoryWrite a bs) s = .fault .outsideAddressSpace :=
  if_neg (Nat.not_le.2 past)

/-- Every command keeps the canonical form of host memory. -/
theorem exec_keeps_wf {c : Instr} {s t : State} (w : Memory.wf s.mem = true) (h : exec c s = .next t) :
    Memory.wf t.mem = true := by
  cases c with
  | takenWriteComplete | resultWriteComplete | doneWriteComplete | openWriteComplete | cueRecordWriteComplete
  | pageHeaderWriteComplete | closedWriteComplete | tallyHalfwordWriteComplete | tallyWordWriteComplete
  | publishCountWriteComplete | publishContentWriteComplete =>
    obtain rfl := Host.Outcome.next.inj h
    exact complete_onLanded_wf (by simp) w
  | memoryFault =>
    obtain rfl := Host.Outcome.next.inj h
    exact linkFault_wf w
  | memoryRequestTimeout =>
    obtain rfl := Host.Outcome.next.inj h
    split
    · exact linkFault_wf w
    · exact w
  | hostMemoryWrite a bs =>
    rcases Nat.lt_or_ge Config.addrModulus (a.toNat + bs.length) with past | fits
    · rw [exec_hostMemoryWrite_of_past past] at h
      cases h
    · rw [exec_hostMemoryWrite_of_fits fits] at h
      obtain rfl := Host.Outcome.next.inj h
      exact writeBytes_wf w a.toNat bs
  | _ => rw [exec_mem_of_not_writesMemory h rfl]; exact w

/-- A millisecond of running time leaves host memory alone. -/
@[simp] theorem tick_mem (s : State) : (tick s).mem = s.mem := by
  simp [tick, apply_ite State.mem]

/-! ### The obligations -/

/-- Settles O5, by the command. -/
theorem otherCommandsLeaveMemory : Obligations.OtherCommandsLeaveMemory :=
  fun _ _ _ h hc => exec_mem_of_not_writesMemory h hc

/-- Settles O11: a host write is one write of several bytes, whose reads are known. -/
theorem hostWritesMemory : Obligations.HostWritesMemory := by
  intro a bs s w
  refine ⟨fun fits => ?_, fun past => exec_hostMemoryWrite_of_past past s⟩
  exact ⟨_, exec_hostMemoryWrite_of_fits fits s, rfl, fun i b hb => read_writeBytes_at w fits hb,
    fun k hk => read_writeBytes_outside w fits hk⟩

/-- Settles O51: a millisecond leaves memory, and every command keeps its form. -/
theorem memoryKeepsItsForm : Obligations.MemoryKeepsItsForm := by
  intro s t w h
  cases hp : s.pending with
  | nil =>
    obtain rfl : tick s = t := by simpa [step, hp] using h
    rw [tick_mem]; exact w
  | cons c rest =>
    have hx : exec c { s with pending := rest } = .next t := by simpa [step, hp] using h
    exact exec_keeps_wf (s := { s with pending := rest }) w hx

end Sys2Proof.Machine
end

/-! Platforms and track contacts (R52 to R70). -/

namespace Sys2Proof.Machine

open Sys2Proof.Safety

/-! ### The platform change protocol (R65, R66) -/

/-- The moved-from list of the model is that of R65 while the old platform is not on it. -/
theorem movedFromAfter_eq {old : Nat} {l : List Nat} (new : Nat) (short : l.length ≤ 3) (h : old ∉ l) :
    movedFromAfter old new l = movedFromList old new l := by
  have same : (l.filter fun p => p != new) = l.filter (· ≠ new) := by simp [bne, beq_eq_decide]
  have absent : (l.filter (· ≠ new)).contains old = false := by simp [h]
  have fits : (l.filter (· ≠ new)).length ≤ 3 := (List.length_filter_le _ _).trans short
  simp only [movedFromAfter, movedFromList, same, absent, Bool.false_eq_true, if_false, List.length_append,
    List.length_singleton]
  split
  · rw [show (l.filter (· ≠ new)).length + 1 - 3 = 1 by omega]
  · rw [show (l.filter (· ≠ new)).length + 1 - 3 = 0 by omega, List.drop_zero]

/-- What R65 asks of the list after a change: it ends with the old platform, the new one has left it, and the newest three
remain, no two the same. -/
theorem movedFromList_spec {old new : Nat} {l : List Nat} (distinct : l.Nodup) (h : old ∉ l) (ne : old ≠ new) :
    old ∈ movedFromList old new l ∧ new ∉ movedFromList old new l ∧ (movedFromList old new l).length ≤ 3 ∧
      (movedFromList old new l).Nodup := by
  set kept := l.filter (· ≠ new) ++ [old] with hk
  have nodup : kept.Nodup := by
    rw [hk, List.nodup_append]
    refine ⟨distinct.filter _, List.nodup_singleton old, fun a ha b hb => ?_⟩
    rw [List.mem_singleton.1 hb]
    rintro rfl
    exact h (List.mem_of_mem_filter ha)
  have gone : new ∉ kept := by simp [hk, ne.symm]
  have drop : movedFromList old new l = kept.drop (kept.length - 3) := rfl
  have sub := List.drop_sublist (kept.length - 3) kept
  rw [drop]
  refine ⟨?_, fun m => gone (sub.mem m), by rw [List.length_drop]; omega, nodup.sublist sub⟩
  have len : kept.length = (l.filter (· ≠ new)).length + 1 := by simp [hk]
  rw [hk, List.drop_append_of_le_length (by rw [← hk, len]; omega)]
  exact List.mem_append_right _ (List.mem_singleton_self old)

/-- Settles O19, by the cases of a SET_PLATFORM entry. -/
theorem platformChangeProtocol : Obligations.PlatformChangeProtocol := by
  intro r old new
  refine ⟨fun hp ne hc inv => ?_, ⟨?_, ?_⟩, fun hp hc => ?_, fun hp hc => ?_, fun hc p hne => ?_⟩
  · have away := inv.elsewhere old hp
    have list := movedFromAfter_eq new inv.short away
    refine ⟨_, rfl, ?_, (movedFromList_spec inv.distinct away ne).1, (movedFromList_spec inv.distinct away ne).2.1,
      (movedFromList_spec inv.distinct away ne).2.2.1, (movedFromList_spec inv.distinct away ne).2.2.2, ?_⟩
    · simp [movePlatform, hp, ne, hc, list]
    · simp [changeNote, hp, ne, hc]
  · simp [movePlatform]
  · unfold changeNote
    split
    · next hp hn => simp [Option.some.inj (hp.symm.trans hn)]
    · rfl
  · simp [movePlatform, changeNote, hp, hc]
  · simp [movePlatform, changeNote, hp, hc]
  · refine ⟨by simp [movePlatform, hc, hne.symm], ?_⟩
    unfold changeNote
    split <;> simp [hc]

end Sys2Proof.Machine

/-! Contacts. -/

namespace Sys2Proof.Machine

open Sys2Proof.Safety

/-! ### Platform records -/

/-- A platform from 1 that has a record takes what a change makes of the record. -/
theorem setPlatform_eq {p : Nat} {s : State} (pos : 1 ≤ p) (held : p ≤ s.pu.platforms.length)
    (f : PlatformRec → PlatformRec) :
    setPlatform p f s =
      s.onPu fun x => { x with platforms := x.platforms.set (p - 1) (f (platformRec s p)) } := by
  have place : s.pu.platforms[p - 1]? = some s.pu.platforms[p - 1] := List.getElem?_eq_getElem (by omega)
  have same : s.pu.platforms.modify (p - 1) f = s.pu.platforms.set (p - 1) (f (platformRec s p)) := by
    rw [List.modify_eq_set_getElem?, place]
    simp [platformRec, Nat.ne_of_gt pos, place]
  simp [setPlatform, Nat.ne_of_gt pos, State.onPu, same]

/-- The record of a changed platform. -/
theorem platformRec_setPlatform {p : Nat} {s : State} (pos : 1 ≤ p) (held : p ≤ s.pu.platforms.length)
    (f : PlatformRec → PlatformRec) : platformRec (setPlatform p f s) p = f (platformRec s p) := by
  rw [setPlatform_eq pos held]
  have lt : p - 1 < s.pu.platforms.length := by omega
  simp only [platformRec, if_neg (Nat.ne_of_gt pos), onPu_pu]
  simp [List.getD_eq_getElem?_getD, List.getElem?_set_self lt]

/-- Records depend on the Platform Unit alone. -/
theorem platformRec_congr {s t : State} (h : t.pu = s.pu) (p : Nat) : platformRec t p = platformRec s p := by
  simp [platformRec, h]

/-! ### Samples of CONTACT lines (R54, R131, R133) -/

/-- A CONTACT line's sample is the level on it, or high with the pull-up set while nothing drives it. -/
theorem contactSample_eq {s : State} {line : Nat} {l : FieldLine} {pull : Bool} (hl : s.fu.lines[line]? = some l)
    (hf : l.fn = .contact pull) (level driven : Bool) :
    contactSample line level driven s = holdSample line l.level (level || (pull && !driven)) s := by
  obtain ⟨fn, held, pulse⟩ := l
  subst hf
  simp [contactSample, hl, LineFn.sampled]

/-- A field line that is there takes what a change makes of it. -/
theorem setLine_eq {s : State} {line : Nat} {l : FieldLine} (hl : s.fu.lines[line]? = some l)
    (f : FieldLine → FieldLine) :
    setLine line f s = { s with fu := { s.fu with lines := s.fu.lines.set line (f l) } } := by
  simp [setLine, State.onFu, List.modify_eq_set_getElem?, hl]

/-- A platform that a contact line belongs to is numbered from 1. -/
theorem platformOfLine_pos {s : State} {line p : Nat} (h : platformOfLine s line = some p) : 1 ≤ p := by
  have := List.mem_of_find?_eq_some h
  simp only [List.mem_map, List.mem_range] at this
  omega

/-- What a level change makes of the pending change of a platform's record (R54). -/
def levelTaken (level : Bool) (u : Nat) (r : PlatformRec) : PlatformRec :=
  match r.contact with
  | .fault => r
  | .unknown => { r with pending := some ⟨occupancyOf r level, u⟩ }
  | .present | .absent =>
    { r with pending := if r.pending.isSome then none else some ⟨occupancyOf r level, u⟩ }

/-- A level change in RUNNING changes the record of its platform. -/
theorem takeLevel_running {s : State} (h : s.xp.run = .running) (p : Nat) (level : Bool) :
    takeLevel p level s = setPlatform p (levelTaken level s.sc.u) s := by
  rw [takeLevel, if_pos h]
  rfl

/-- A level change outside RUNNING passes. -/
theorem takeLevel_of_ne {s : State} (h : s.xp.run ≠ .running) (p : Nat) (level : Bool) : takeLevel p level s = s :=
  if_neg h

/-- Of a record a level change moves the pending change alone. -/
theorem levelTaken_frame (level : Bool) (u : Nat) (r : PlatformRec) :
    levelTaken level u r = { r with pending := (levelTaken level u r).pending } := by
  unfold levelTaken
  split <;> rfl

theorem levelTaken_fault {r : PlatformRec} (h : r.contact = .fault) (level : Bool) (u : Nat) :
    levelTaken level u r = r := by
  simp [levelTaken, h]

theorem levelTaken_unknown {r : PlatformRec} (h : r.contact = .unknown) (level : Bool) (u : Nat) :
    (levelTaken level u r).pending = some ⟨xor level r.presentWhenLow, u⟩ := by
  simp [levelTaken, h, occupancyOf]

theorem levelTaken_known {r : PlatformRec} (h : r.contact = .present ∨ r.contact = .absent) (level : Bool) (u : Nat) :
    (levelTaken level u r).pending =
      if r.pending.isSome then none else some ⟨xor level r.presentWhenLow, u⟩ := by
  rcases h with h | h <;> simp [levelTaken, h, occupancyOf]

/-- A new level of a line that no platform names is held, and nothing else. -/
theorem holdSample_unnamed {s : State} {line : Nat} {held new : Bool} (ne : held ≠ new)
    (h : platformOfLine s line = none) :
    holdSample line held new s = setLine line (fun l => { l with level := new }) s := by
  simp [holdSample, ne, h]

/-- A new level of a line that a platform names is held, and the platform takes it. -/
theorem holdSample_named {s : State} {line p : Nat} {held new : Bool} (ne : held ≠ new)
    (h : platformOfLine s line = some p) :
    holdSample line held new s = takeLevel p new (setLine line (fun l => { l with level := new }) s) := by
  simp [holdSample, ne, h]

/-- Settles O37: a sample is held, and in RUNNING the platform of the line takes the new level. -/
theorem contactLevelsArePending : Obligations.ContactLevelsArePending := by
  intro s line l pull level driven hl hf known
  have run : exec (.contactLevelChange line ⟨level, driven⟩) s =
      .next (holdSample line l.level (level || (pull && !driven)) s) :=
    congrArg Host.Outcome.next (contactSample_eq hl hf level driven)
  refine ⟨fun same => by rw [run, same, holdSample, if_pos rfl], fun new => ?_⟩
  have ne : l.level ≠ !l.level := by cases l.level <;> simp
  rw [run, new]
  cases hp : platformOfLine s line with
  | none =>
    rw [holdSample_unnamed ne hp, setLine_eq hl]
    exact ⟨_, rfl, rfl, rfl, fun _ => rfl, fun p h => nomatch h⟩
  | some p =>
    rw [holdSample_named ne hp, setLine_eq hl]
    set s1 : State := { s with fu := { s.fu with lines := s.fu.lines.set line { l with level := !l.level } } } with hs1
    have pos := platformOfLine_pos hp
    have len : p ≤ s1.pu.platforms.length := known p hp
    by_cases hr : s.xp.run = .running
    · rw [takeLevel_running (s := s1) hr]
      refine ⟨_, rfl, by rw [setPlatform_eq pos len]; rfl, by simp [hs1], ?_, ?_⟩
      · rintro (h | h)
        · cases h
        · exact absurd hr h
      · rintro q ⟨⟩ -
        rw [platformRec_setPlatform pos len, show platformRec s1 p = platformRec s p from rfl]
        refine ⟨by rw [setPlatform_eq pos len]; rfl, levelTaken_frame _ _ _, fun h => by rw [levelTaken_fault h],
          fun h => levelTaken_unknown h _ _, fun h => ?_⟩
        rw [levelTaken_known h]
        exact ⟨fun some => if_pos (Option.isSome_iff_ne_none.2 some), fun none => by simp [none, hs1]⟩
    · rw [takeLevel_of_ne (s := s1) hr]
      exact ⟨s1, rfl, rfl, rfl, fun _ => rfl, fun q _ h => absurd h hr⟩

end Sys2Proof.Machine

/-! Pending changes. -/

namespace Sys2Proof.Machine

open Sys2Proof.Safety

/-! ### The creation sequence (R144): a frame and the work on the pages create no cue -/

@[simp] theorem tryOpenPage_nextSeq (s : State) : (tryOpenPage s).cq.nextSeq = s.cq.nextSeq := by
  unfold tryOpenPage; split <;> simp

@[simp] theorem progressWrite_nextSeq (s : State) : (progressWrite s).cq.nextSeq = s.cq.nextSeq := by
  unfold progressWrite
  split
  · split <;> simp
  · rfl

@[simp] theorem takeFirstEligible_nextSeq (s : State) : (takeFirstEligible s).cq.nextSeq = s.cq.nextSeq := by
  unfold takeFirstEligible; split <;> simp

@[simp] theorem writerTest_nextSeq (s : State) : (writerTest s).cq.nextSeq = s.cq.nextSeq := by
  unfold writerTest; split <;> simp

@[simp] theorem framesReached_nextSeq (s : State) : (framesReached s).cq.nextSeq = s.cq.nextSeq := by
  simp [framesReached]

@[simp] theorem completeFrame_nextSeq (s : State) : (completeFrame s).cq.nextSeq = s.cq.nextSeq := by
  simp [completeFrame]

@[simp] theorem progressFrame_nextSeq (s : State) : (progressFrame s).cq.nextSeq = s.cq.nextSeq := by
  unfold progressFrame
  split
  · dsimp only
    split
    · split <;> simp
    · simp
  · rfl

@[simp] theorem requestFrame_nextSeq (s : State) : (requestFrame s).cq.nextSeq = s.cq.nextSeq := by
  unfold requestFrame
  split
  · split <;> simp
  · rfl

/-- A cue that enters the queue moves the queue and the dropped count alone. -/
theorem enqueueCue_frame (c : Cue) (x : CQ) :
    enqueueCue c x = { x with queue := (enqueueCue c x).queue, dropped := (enqueueCue c x).dropped } := by
  unfold enqueueCue
  split
  · rfl
  · split
    · rfl
    · split <;> rfl

/-- The creation of a cue moves the queue, the creation sequence and the two counts alone. -/
theorem createCue_frame (c : Cue) (x : CQ) :
    createCue c x =
      { x with
        nextSeq := count32 x.nextSeq, queue := (createCue c x).queue, dropped := (createCue c x).dropped
        superseded := (createCue c x).superseded } := by
  have h := enqueueCue_frame c (removeCues (supersedes c) { x with nextSeq := count32 x.nextSeq })
  unfold createCue
  dsimp only
  rw [h]
  rfl

/-- A cue that is created takes the next creation sequence, whether or not the queue has room for it (R144, R150). -/
@[simp] theorem createCue_nextSeq (c : Cue) (x : CQ) : (createCue c x).nextSeq = count32 x.nextSeq := by
  rw [createCue_frame]

/-- A request for a CONTACT report creates its cue, in every run state and for every platform (R70). -/
theorem takeRequest_contact_nextSeq (p : Nat) (sub : ContactSub) (s : State) :
    (takeRequest (.contact p sub) s).cq.nextSeq = count32 s.cq.nextSeq := by
  simp [takeRequest, removesOnly, cueOf]

/-! ### Pending changes that have lasted their filter time (R55 to R57, R59) -/

/-- A pending change is due in RUNNING, for a platform in service, when it has lasted the filter time. -/
theorem pendingDue_eq {s : State} {p : Nat} {c : Pending} (run : s.xp.run = .running) (pos : 1 ≤ p)
    (served : p ≤ s.pu.platformCount) (hc : (platformRec s p).pending = some c)
    (due : c.since + (platformRec s p).filter ≤ s.sc.u) : pendingDue s p = some c := by
  simp [pendingDue, run, inService, pos, served, hc, due]

/-- The Platform Unit after the end of a baseline. -/
theorem endBaseline_pu (p : Nat) (b : Bool) (s : State) :
    (endBaseline p b s).pu =
      (setPlatform p (fun r => { r with contact := contactOf b, pending := none }) s).pu := by
  simp [endBaseline]

/-- The Platform Unit after chatter. -/
theorem contactFaults_pu (p : Nat) (s : State) :
    (contactFaults p s).pu =
      (setPlatform p (fun r => { r with contact := .fault, pending := none, history := [] }) s).pu := by
  simp [contactFaults]

/-- The Platform Unit after an accepted change: the edge is the Roster Unit's. -/
theorem acceptChange_pu (p : Nat) (b : Bool) (s : State) :
    (acceptChange p b s).pu =
      (setPlatform p
        (fun r => { r with contact := contactOf b, pending := none, history := appendChange s.sc.u r.history })
        s).pu := by
  unfold acceptChange
  dsimp only
  split <;> simp

/-- An accepted change to PRESENT changes no departure (R63). -/
theorem acceptChange_present_ru (p : Nat) (s : State) : (acceptChange p true s).ru = s.ru := by
  simp [acceptChange]

/-- Chatter raises CONTACT_FAULT. -/
theorem contactFaults_attn (p : Nat) (s : State) : (contactFaults p s).xp.attn.getLsbD 3 = true := by
  simp [contactFaults, raiseAttn, AttnFlag.bit]

/-- Settles O38, by the contact state and, in PRESENT or ABSENT, by whether the change is chatter. -/
theorem pendingChangesExpire : Obligations.PendingChangesExpire := by
  intro s p c run pos served len hc due
  have exec_eq : exec (.pendingChangeExpiry p) s = .next (pendingExpired p c.present s) := by
    simp [exec, execPendingChangeExpiry, pendingDue_eq run pos served hc due]
  refine ⟨_, exec_eq, by simp, by simp, fun unknown => ?_, fun known => ⟨fun chatter => ?_, fun calm => ?_⟩,
    fun fault => by simp [pendingExpired, fault]⟩
  · have eq : pendingExpired p c.present s = endBaseline p c.present s := by simp [pendingExpired, unknown]
    rw [eq]
    refine ⟨by simp, ?_, ?_⟩
    · simp [endBaseline, takeRequest_contact_nextSeq, count32, Config.countModulus]
    · rw [platformRec_congr (endBaseline_pu p c.present s), platformRec_setPlatform pos len]
  · have eq : pendingExpired p c.present s = contactFaults p s := by
      rcases known with h | h <;> simp [pendingExpired, h, chatter]
    rw [eq]
    refine ⟨by simp, contactFaults_attn p s, ?_⟩
    rw [platformRec_congr (contactFaults_pu p s), platformRec_setPlatform pos len]
  · have eq : pendingExpired p c.present s = acceptChange p c.present s := by
      rcases known with h | h <;> simp [pendingExpired, h, calm]
    rw [eq]
    refine ⟨fun present => by rw [present]; exact acceptChange_present_ru p s, ?_⟩
    rw [platformRec_congr (acceptChange_pu p c.present s), platformRec_setPlatform pos len]

end Sys2Proof.Machine

/-! What every operation keeps: the moved-from lists (R65), the bounds of the queues and buffers and the bound of a cue
page (R161). The bounds are put block by block, `Keeps` says that an operation keeps each of them, and one lemma for each
operation of the model leads to `exec_keeps`. -/

namespace Sys2Proof.Machine

open Sys2Proof.Safety

/-! ### The bounds, block by block -/

/-- The post queue's bound (R173). -/
def PostsBounded (x : XP) : Prop := x.postQueue.length ≤ 16 ∧ ∀ n ∈ x.postQueue, n ≤ 15

/-- The bounds of the notice table (R96) and of the posting sequence (R95). -/
def NoticesBounded (x : RU) : Prop := x.notices.length ≤ 24 ∧ 1 ≤ x.nextPosting ∧ x.nextPosting < 2 ^ 40

/-- The bound of the change histories (R56). -/
def HistoriesBounded (x : PU) : Prop := ∀ p ∈ x.platforms, p.history.length ≤ 8

/-- The bounds of the cue queue (R149) with its order, and of the tally list (R167). -/
structure CuesBounded (x : CQ) : Prop where
  cues : x.queue.length ≤ 32
  urgency : x.queue.Pairwise fun a b => a.priority ≤ b.priority
  tallies : x.tallyList.length ≤ 32

/-- What a panel keeps from one START to the next: its kind, its lane and its address. -/
def Panel.place (p : Panel) : PanelKind × Nat × Nat := (p.kind, p.lane, p.addr)

/-- The addresses of the clock panels of a lane. -/
def clockAddrs (ps : List Panel) (n : Nat) : List Nat := (ps.filter (clockOn n)).map (·.addr)

/-- The bounds of a lane's queues (R127, R128), with the addresses that its clock records may have. -/
structure LaneBounded (addrs : List Nat) (l : Lane) : Prop where
  lineRecs : l.frameQueue.length ≤ 64
  distinct : (l.clockQueue.map (·.addr)).Nodup
  known : ∀ r ∈ l.clockQueue, r.addr ∈ addrs

/-- The bounds of the lanes and the sensors (R127, R128, R132, R138). -/
structure LinesBounded (ps : List Panel) (x : FU) : Prop where
  samples : ∀ h ∈ x.sensors, h.length ≤ 8
  clockPanels : ∀ n, (clockAddrs ps n).length ≤ 2
  lanes : ∀ n l, x.lanes[n]? = some l → LaneBounded (clockAddrs ps n) l

/-- An address of a clock panel is that of a panel that stands there. -/
theorem mem_clockAddrs {ps : List Panel} {n a : Nat} :
    a ∈ clockAddrs ps n ↔ ∃ p ∈ ps, clockOn n p = true ∧ p.addr = a := by
  simp [clockAddrs, and_assoc]

/-- A clock queue with distinct addresses, all of clock panels, is no longer than they are many. -/
theorem LaneBounded.clocks_le {addrs : List Nat} {l : Lane} (h : LaneBounded addrs l) :
    l.clockQueue.length ≤ addrs.length := by
  have sub : l.clockQueue.map (·.addr) ⊆ addrs := by
    intro a ha
    obtain ⟨r, hr, rfl⟩ := List.mem_map.1 ha
    exact h.known r hr
  simpa using (h.distinct.subperm sub).length_le

/-- The bounds of the whole are those of the blocks. -/
theorem queueInv_iff (s : State) :
    QueueInv s ↔ PostsBounded s.xp ∧ NoticesBounded s.ru ∧ HistoriesBounded s.pu ∧ s.wc.cache.length ≤ 96 ∧
      LinesBounded s.wc.panels s.fu ∧ CuesBounded s.cq := by
  constructor
  · intro h
    refine ⟨h.posts, ⟨h.notices, h.postings⟩, h.histories, h.cache, ⟨h.samples, ?_, fun n l hl => ⟨?_, ?_, ?_⟩⟩,
      ⟨h.cues, h.urgency, h.tallies⟩⟩
    · intro n; simpa [clockAddrs] using h.clockPanels n
    · exact h.frameQueues l (List.mem_of_getElem? hl)
    · exact (h.clocks n l hl).2.1
    · exact fun r hr => mem_clockAddrs.2 ((h.clocks n l hl).2.2 r hr)
  · rintro ⟨posts, notices, histories, cache, lines, cues⟩
    exact
      { posts := posts
        notices := notices.1
        histories := histories
        cache := cache
        frameQueues := fun l hl => by
          obtain ⟨n, hn⟩ := List.getElem?_of_mem hl
          exact (lines.lanes n l hn).lineRecs
        samples := lines.samples
        cues := cues.cues
        tallies := cues.tallies
        urgency := cues.urgency
        postings := notices.2
        clockPanels := fun n => by simpa [clockAddrs] using lines.clockPanels n
        clocks := fun n l hl =>
          ⟨(lines.lanes n l hl).clocks_le.trans (lines.clockPanels n), (lines.lanes n l hl).distinct,
            fun r hr => mem_clockAddrs.1 ((lines.lanes n l hl).known r hr)⟩ }

/-- Panels of the same places have the same clock addresses. -/
theorem clockAddrs_congr {ps qs : List Panel} (h : ps.map Panel.place = qs.map Panel.place) (n : Nat) :
    clockAddrs ps n = clockAddrs qs n := by
  induction ps generalizing qs with
  | nil => rw [List.map_nil, eq_comm, List.map_eq_nil_iff] at h; rw [h]
  | cons p ps ih =>
    cases qs with
    | nil => simp at h
    | cons q qs =>
      rw [List.map_cons, List.map_cons, List.cons.injEq] at h
      obtain ⟨kind, lane, addr⟩ : p.kind = q.kind ∧ p.lane = q.lane ∧ p.addr = q.addr := by
        simpa [Panel.place] using h.1
      have on : clockOn n p = clockOn n q := by simp only [clockOn, kind, lane]
      have rest := ih h.2
      unfold clockAddrs at rest ⊢
      rw [List.filter_cons, List.filter_cons, on]
      split
      · rw [List.map_cons, List.map_cons, rest, addr]
      · exact rest

/-- The bounds of the lines look at the panels' places alone. -/
theorem LinesBounded.of_places {ps qs : List Panel} {x : FU} (b : LinesBounded ps x)
    (h : qs.map Panel.place = ps.map Panel.place) : LinesBounded qs x :=
  ⟨b.samples, fun n => by rw [clockAddrs_congr h]; exact b.clockPanels n,
    fun n l hl => by rw [clockAddrs_congr h]; exact b.lanes n l hl⟩

/-! ### What an operation keeps -/

/-- Going from `s` to `t` keeps the moved-from lists and each bound of a queue or buffer. -/
structure KeepsBounds (s t : State) : Prop where
  moved : (∀ d ∈ s.ru.roster, MovedFromInv d) → ∀ d ∈ t.ru.roster, MovedFromInv d
  posts : PostsBounded s.xp → PostsBounded t.xp
  notices : NoticesBounded s.ru → NoticesBounded t.ru
  histories : HistoriesBounded s.pu → HistoriesBounded t.pu
  cache : s.wc.cache.length ≤ 96 → t.wc.cache.length ≤ 96
  lines : LinesBounded s.wc.panels s.fu → LinesBounded t.wc.panels t.fu
  cues : CuesBounded s.cq → CuesBounded t.cq

/-- Going from `s` to `t` keeps all of that, and the open page's bound. -/
structure Keeps (s t : State) : Prop extends KeepsBounds s t where
  page : PageInv s.cq → PageInv t.cq

theorem KeepsBounds.trans {s t u : State} (h : KeepsBounds s t) (k : KeepsBounds t u) : KeepsBounds s u :=
  ⟨k.moved ∘ h.moved, k.posts ∘ h.posts, k.notices ∘ h.notices, k.histories ∘ h.histories, k.cache ∘ h.cache,
    k.lines ∘ h.lines, k.cues ∘ h.cues⟩

theorem Keeps.refl (s : State) : Keeps s s := ⟨⟨id, id, id, id, id, id, id⟩, id⟩

theorem Keeps.trans {s t u : State} (h : Keeps s t) (k : Keeps t u) : Keeps s u :=
  ⟨h.toKeepsBounds.trans k.toKeepsBounds, k.page ∘ h.page⟩

theorem KeepsBounds.queueInv {s t : State} (h : KeepsBounds s t) (b : QueueInv s) : QueueInv t := by
  rw [queueInv_iff] at b ⊢
  obtain ⟨posts, notices, histories, cache, lines, cues⟩ := b
  exact ⟨h.posts posts, h.notices notices, h.histories histories, h.cache cache, h.lines lines, h.cues cues⟩

/-- A fold of steps that keep keeps. -/
theorem Keeps.foldl {α : Type} {f : State → α → State} (h : ∀ s a, Keeps s (f s a)) (l : List α) (s : State) :
    Keeps s (l.foldl f s) := by
  induction l generalizing s with
  | nil => exact .refl s
  | cons a l ih => exact (h s a).trans (ih (f s a))

section
variable {s : State}

/-- A change of the Exchange Port keeps all when it keeps the post queue's bound. -/
theorem Keeps.onXp {f : XP → XP} (h : PostsBounded s.xp → PostsBounded (f s.xp)) : Keeps s (s.onXp f) :=
  ⟨⟨id, h, id, id, id, id, id⟩, id⟩

/-- A change of the Exchange Port that leaves the post queue alone. -/
theorem Keeps.onXp_of_eq {f : XP → XP} (h : (f s.xp).postQueue = s.xp.postQueue) : Keeps s (s.onXp f) :=
  .onXp fun b => by unfold PostsBounded; rw [h]; exact b

theorem Keeps.onRu {f : RU → RU}
    (moved : (∀ d ∈ s.ru.roster, MovedFromInv d) → ∀ d ∈ (f s.ru).roster, MovedFromInv d)
    (notices : NoticesBounded s.ru → NoticesBounded (f s.ru)) : Keeps s (s.onRu f) :=
  ⟨⟨moved, id, notices, id, id, id, id⟩, id⟩

theorem Keeps.onPu {f : PU → PU} (h : HistoriesBounded s.pu → HistoriesBounded (f s.pu)) : Keeps s (s.onPu f) :=
  ⟨⟨id, id, id, h, id, id, id⟩, id⟩

theorem Keeps.onSc (f : SC → SC) : Keeps s (s.onSc f) := ⟨⟨id, id, id, id, id, id, id⟩, id⟩

theorem Keeps.onMem (f : List Host.Cell → List Host.Cell) : Keeps s (s.onMem f) := ⟨⟨id, id, id, id, id, id, id⟩, id⟩

/-- A change of the Wall Composer keeps all when it keeps the cache's bound and the places of the panels. -/
theorem Keeps.onWc {f : WC → WC} (cache : s.wc.cache.length ≤ 96 → (f s.wc).cache.length ≤ 96)
    (panels : (f s.wc).panels.map Panel.place = s.wc.panels.map Panel.place) : Keeps s (s.onWc f) :=
  ⟨⟨id, id, id, id, cache, fun b => b.of_places panels, id⟩, id⟩

theorem Keeps.onFu {f : FU → FU} (h : LinesBounded s.wc.panels s.fu → LinesBounded s.wc.panels (f s.fu)) :
    Keeps s (s.onFu f) :=
  ⟨⟨id, id, id, id, id, h, id⟩, id⟩

/-- A change of the Field Line Unit that leaves lanes and samples alone. -/
theorem Keeps.onFu_of_eq {f : FU → FU} (lanes : (f s.fu).lanes = s.fu.lanes) (sensors : (f s.fu).sensors = s.fu.sensors) :
    Keeps s (s.onFu f) :=
  .onFu fun b => ⟨by rw [sensors]; exact b.samples, b.clockPanels, by rw [lanes]; exact b.lanes⟩

theorem KeepsBounds.onCq {f : CQ → CQ} (cues : CuesBounded s.cq → CuesBounded (f s.cq)) : KeepsBounds s (s.onCq f) :=
  ⟨id, id, id, id, id, id, cues⟩

theorem Keeps.onCq {f : CQ → CQ} (cues : CuesBounded s.cq → CuesBounded (f s.cq))
    (page : PageInv s.cq → PageInv (f s.cq)) : Keeps s (s.onCq f) :=
  ⟨.onCq cues, page⟩

/-- A change of the Exchange Port alone, by what it leaves alone. -/
theorem Keeps.of_blocks {t : State} (posts : t.xp.postQueue = s.xp.postQueue) (ru : t.ru = s.ru) (pu : t.pu = s.pu)
    (wc : t.wc = s.wc) (fu : t.fu = s.fu) (cq : t.cq = s.cq) : Keeps s t := by
  refine ⟨⟨?_, ?_, ?_, ?_, ?_, ?_, ?_⟩, ?_⟩ <;> simp only [ru, pu, wc, fu, cq, PostsBounded, posts] <;> exact id

end

/-- The cues' bounds look at the queue and the tally list alone. -/
theorem CuesBounded.of_eq {x y : CQ} (b : CuesBounded x) (queue : y.queue = x.queue)
    (tallyList : y.tallyList = x.tallyList) : CuesBounded y :=
  ⟨by rw [queue]; exact b.cues, by rw [queue]; exact b.urgency, by rw [tallyList]; exact b.tallies⟩

/-- The page's bound looks at the open page and at whether a cue is being written. -/
theorem pageInv_of_eq {x y : CQ} (b : PageInv x) (openPage : y.openPage = x.openPage)
    (writing : y.writing = none → x.writing = none) : PageInv y :=
  ⟨by rw [openPage]; exact b.count, by rw [openPage]; exact b.opening,
    by rw [openPage]; exact fun p hp hf hw => b.room p hp hf (writing hw)⟩

/-- With no page open there is nothing to bound. -/
theorem pageInv_of_none {x : CQ} (h : x.openPage = none) : PageInv x :=
  ⟨by simp [h], by simp [h], by simp [h]⟩

/-! ### Attention and memory requests -/

theorem raiseAttn_keeps (f : AttnFlag) (s : State) : Keeps s (raiseAttn f s) := .onXp_of_eq rfl

theorem enterRun_keeps (r : RunState) (s : State) : Keeps s (enterRun r s) :=
  (Keeps.onXp_of_eq rfl).trans (raiseAttn_keeps _ _)

theorem request_keeps (r : MemReq) (s : State) : Keeps s (request r s) :=
  .of_blocks (by simp) (by simp) (by simp) (by simp) (by simp) (by simp)

theorem releaseLink_keeps (s : State) : Keeps s (releaseLink s) :=
  .of_blocks (by simp) (by simp) (by simp) (by simp) (by simp) (by simp)

theorem landWrite_keeps (r : MemReq) (s : State) : Keeps s (landWrite r s) := .onMem _

theorem landFaulted_keeps (r : MemReq) (s : State) : Keeps s (landFaulted r s) := ⟨⟨id, id, id, id, id, id, id⟩, id⟩

theorem recordFault_keeps (r : MemReq) (s : State) : Keeps s (recordFault r s) :=
  (Keeps.onXp_of_eq rfl).trans (raiseAttn_keeps _ _)

/-! ### Lanes -/

/-- A change of one lane keeps the bounds when it keeps that lane's. -/
theorem LinesBounded.onLane {s : State} {n : Nat} {f : Lane → Lane} (b : LinesBounded s.wc.panels s.fu)
    (h : ∀ l, s.fu.lanes[n]? = some l → LaneBounded (clockAddrs s.wc.panels n) (f l)) :
    LinesBounded (onLane n f s).wc.panels (onLane n f s).fu := by
  refine ⟨b.samples, b.clockPanels, fun k l hl => ?_⟩
  have hl' : (s.fu.lanes.modify n f)[k]? = some l := hl
  rw [List.getElem?_modify] at hl'
  split at hl'
  · next e =>
    subst e
    obtain ⟨m, hm, rfl⟩ := Option.map_eq_some_iff.1 hl'
    exact h m hm
  · obtain ⟨m, hm, rfl⟩ := Option.map_eq_some_iff.1 hl'
    exact b.lanes k m hm

/-- A row taken into a sent image leaves the panels' places. -/
@[simp] theorem imageRow_places (i r : Nat) (c : Row) (s : State) :
    (imageRow i r c s).wc.panels.map Panel.place = s.wc.panels.map Panel.place := by
  apply List.ext_getElem?
  intro k
  simp only [imageRow, onWc_wc, List.getElem?_map, List.getElem?_modify]
  cases s.wc.panels[k]? with
  | none => simp
  | some p => by_cases h : i = k <;> simp [h, Panel.place]

@[simp] theorem imageRow_cache (i r : Nat) (c : Row) (s : State) : (imageRow i r c s).wc.cache = s.wc.cache := rfl

/-- An accepted record keeps the bounds while its lane's frame queue has a place. -/
theorem acceptRecord_lines {s : State} {n : Nat} {r : LineRec}
    (room : ∀ l, s.fu.lanes[n]? = some l → l.frameQueue.length < 64) (b : LinesBounded s.wc.panels s.fu) :
    LinesBounded (acceptRecord n r s).wc.panels (acceptRecord n r s).fu := by
  have lane : LinesBounded s.wc.panels (onLane n (fun l => { l with frameQueue := l.frameQueue ++ [r] }) s).fu :=
    b.onLane fun l hl =>
      ⟨by simpa using room l hl, (b.lanes n l hl).distinct, (b.lanes n l hl).known⟩
  exact lane.of_places (imageRow_places _ _ _ _)

@[simp] theorem acceptRecord_places (n : Nat) (r : LineRec) (s : State) :
    (acceptRecord n r s).wc.panels.map Panel.place = s.wc.panels.map Panel.place := imageRow_places _ _ _ _

@[simp] theorem acceptRecord_cache (n : Nat) (r : LineRec) (s : State) :
    (acceptRecord n r s).wc.cache = s.wc.cache := rfl

/-- The ways in which a lane's transmitter chooses its next record: it sends already, has nothing to send, sends a clock
record, or sends a line record, whose place the first waiting one takes (R127, R129). -/
theorem transmitNext_cases (n : Nat) (s : State) :
    transmitNext n s = s ∨
    ∃ l, s.fu.lanes[n]? = some l ∧ l.sending = none ∧
      ((∃ c cs, l.clockQueue = c :: cs ∧
          transmitNext n s = onLane n (fun l => { l with clockQueue := cs, sending := some (.clock c) }) s) ∨
       (∃ r rs, l.clockQueue = [] ∧ l.frameQueue = r :: rs ∧ l.waiting = [] ∧
          transmitNext n s = onLane n (fun l => { l with frameQueue := rs, sending := some (.line r) }) s) ∨
       ∃ r rs w ws, l.clockQueue = [] ∧ l.frameQueue = r :: rs ∧ l.waiting = w :: ws ∧
          transmitNext n s =
            acceptRecord n w
              (onLane n (fun l => { l with frameQueue := rs, sending := some (.line r), waiting := ws }) s)) := by
  cases hl : s.fu.lanes[n]? with
  | none => left; simp [transmitNext, hl]
  | some l =>
    obtain ⟨q, c, t, w⟩ := l
    cases t with
    | some r => left; simp [transmitNext, hl]
    | none =>
      cases c with
      | cons c cs => right; exact ⟨_, rfl, rfl, .inl ⟨c, cs, rfl, by simp [transmitNext, hl]⟩⟩
      | nil =>
        cases q with
        | nil => left; simp [transmitNext, hl]
        | cons r rs =>
          cases w with
          | nil => right; exact ⟨_, rfl, rfl, .inr (.inl ⟨r, rs, rfl, rfl, rfl, by simp [transmitNext, hl]⟩)⟩
          | cons w ws =>
            right; exact ⟨_, rfl, rfl, .inr (.inr ⟨r, rs, w, ws, rfl, rfl, rfl, by simp [transmitNext, hl]⟩)⟩

@[simp] theorem onLane_places (n : Nat) (f : Lane → Lane) (s : State) :
    (onLane n f s).wc.panels.map Panel.place = s.wc.panels.map Panel.place := rfl

@[simp] theorem transmitNext_places (n : Nat) (s : State) :
    (transmitNext n s).wc.panels.map Panel.place = s.wc.panels.map Panel.place := by
  obtain h | ⟨l, -, -, ⟨c, cs, -, h⟩ | ⟨r, rs, -, -, -, h⟩ | ⟨r, rs, w, ws, -, -, -, h⟩⟩ := transmitNext_cases n s <;>
    simp [h]

@[simp] theorem transmitNext_cache (n : Nat) (s : State) : (transmitNext n s).wc.cache = s.wc.cache := by
  obtain h | ⟨l, -, -, ⟨c, cs, -, h⟩ | ⟨r, rs, -, -, -, h⟩ | ⟨r, rs, w, ws, -, -, -, h⟩⟩ := transmitNext_cases n s <;>
    simp [h]

/-- A lane that chooses its next record keeps the bounds: no queue grows. -/
theorem transmitNext_lines (n : Nat) {s : State} (b : LinesBounded s.wc.panels s.fu) :
    LinesBounded (transmitNext n s).wc.panels (transmitNext n s).fu := by
  obtain h | ⟨l, hl, -, ⟨c, cs, hc, h⟩ | ⟨r, rs, -, hq, -, h⟩ | ⟨r, rs, w, ws, -, hq, -, h⟩⟩ := transmitNext_cases n s <;>
    rw [h]
  · exact b
  · refine b.onLane fun k hk => ?_
    obtain rfl : l = k := Option.some.inj (hl.symm.trans hk)
    have lb := b.lanes n l hl
    have nodup := lb.distinct
    rw [hc, List.map_cons] at nodup
    exact ⟨lb.lineRecs, nodup.of_cons, fun r hr => lb.known r (by rw [hc]; exact List.mem_cons_of_mem c hr)⟩
  · refine b.onLane fun k hk => ?_
    obtain rfl : l = k := Option.some.inj (hl.symm.trans hk)
    have lb := b.lanes n l hl
    have len := lb.lineRecs
    rw [hq, List.length_cons] at len
    exact ⟨Nat.le_of_succ_le len, lb.distinct, lb.known⟩
  · have lb := b.lanes n l hl
    have len := lb.lineRecs
    rw [hq, List.length_cons] at len
    refine acceptRecord_lines (fun k hk => ?_) (b.onLane fun k hk => ?_)
    · rw [onLane_lane _ hl] at hk
      obtain rfl := Option.some.inj hk
      exact len
    · obtain rfl : l = k := Option.some.inj (hl.symm.trans hk)
      exact ⟨Nat.le_of_succ_le len, lb.distinct, lb.known⟩

/-- An operation on the lanes keeps all when it keeps the bounds of the lanes. -/
theorem Keeps.of_lines {s t : State} (xp : t.xp = s.xp) (ru : t.ru = s.ru) (pu : t.pu = s.pu) (cq : t.cq = s.cq)
    (cache : t.wc.cache = s.wc.cache) (lines : LinesBounded s.wc.panels s.fu → LinesBounded t.wc.panels t.fu) :
    Keeps s t := by
  refine ⟨⟨?_, ?_, ?_, ?_, ?_, lines, ?_⟩, ?_⟩ <;> simp only [xp, ru, pu, cq, cache] <;> exact id

/-- A change of one lane keeps all when it keeps that lane's bounds. -/
theorem onLane_keeps {n : Nat} {f : Lane → Lane} {s : State}
    (h : ∀ l, LaneBounded (clockAddrs s.wc.panels n) l → LaneBounded (clockAddrs s.wc.panels n) (f l)) :
    Keeps s (onLane n f s) :=
  .of_lines rfl rfl rfl rfl rfl fun b => b.onLane fun l hl => h l (b.lanes n l hl)

theorem acceptRecord_keeps {n : Nat} {r : LineRec} {s : State}
    (room : ∀ l, s.fu.lanes[n]? = some l → l.frameQueue.length < 64) : Keeps s (acceptRecord n r s) :=
  .of_lines (by simp) (by simp) (by simp) (by simp) rfl (acceptRecord_lines room)

theorem transmitNext_keeps (n : Nat) (s : State) : Keeps s (transmitNext n s) :=
  .of_lines (by simp) (by simp) (by simp) (by simp) (by simp) (transmitNext_lines n)

/-- A record that is handed to a lane is accepted while there is a place, and otherwise waits. -/
theorem handRecord_cases (n : Nat) (r : LineRec) (s : State) :
    (s.fu.lanes[n]? = none ∧ handRecord n r s = s) ∨
    ∃ l, s.fu.lanes[n]? = some l ∧
      ((l.waiting = [] ∧ l.frameQueue.length < 64 ∧ handRecord n r s = transmitNext n (acceptRecord n r s)) ∨
       handRecord n r s = onLane n (fun l => { l with waiting := l.waiting ++ [r] }) s) := by
  cases hl : s.fu.lanes[n]? with
  | none => left; simp [handRecord, hl]
  | some l =>
    right
    refine ⟨l, rfl, ?_⟩
    by_cases h : l.waiting = [] ∧ l.frameQueue.length < 64
    · left; exact ⟨h.1, h.2, by simp [handRecord, hl, Config.frameQueueLimit, h]⟩
    · right; simp [handRecord, hl, Config.frameQueueLimit, h]

@[simp] theorem handRecord_places (n : Nat) (r : LineRec) (s : State) :
    (handRecord n r s).wc.panels.map Panel.place = s.wc.panels.map Panel.place := by
  obtain ⟨-, h⟩ | ⟨l, -, ⟨-, -, h⟩ | h⟩ := handRecord_cases n r s <;> simp [h]

theorem handRecord_keeps (n : Nat) (r : LineRec) (s : State) : Keeps s (handRecord n r s) := by
  obtain ⟨-, h⟩ | ⟨l, hl, ⟨-, room, h⟩ | h⟩ := handRecord_cases n r s <;> rw [h]
  · exact .refl s
  · refine (acceptRecord_keeps fun k hk => ?_).trans (transmitNext_keeps n _)
    obtain rfl : l = k := Option.some.inj (hl.symm.trans hk)
    exact room
  · exact onLane_keeps fun k b => ⟨b.lineRecs, b.distinct, b.known⟩

/-- The addresses of a clock queue after a record is put in it: it takes the place of the one for its panel, or comes
last (R128). -/
theorem putClockRec_addrs (c : ClockRec) (q : List ClockRec) :
    (putClockRec c q).map (·.addr) =
      if c.addr ∈ q.map (·.addr) then q.map (·.addr) else q.map (·.addr) ++ [c.addr] := by
  have any : q.any (fun d => decide (d.addr = c.addr)) = true ↔ c.addr ∈ q.map (·.addr) := by
    simp [List.any_eq_true, List.mem_map]
  unfold putClockRec
  by_cases h : c.addr ∈ q.map (·.addr)
  · rw [if_pos (any.2 h), if_pos h, List.map_map]
    refine List.map_congr_left fun d _ => ?_
    by_cases e : d.addr = c.addr <;> simp [e]
  · rw [if_neg (mt any.1 h), if_neg h, List.map_append, List.map_singleton]

/-- A record of a clock panel keeps the bounds of its lane. -/
theorem handClock_keeps {n : Nat} {c : ClockRec} {s : State} (h : c.addr ∈ clockAddrs s.wc.panels n) :
    Keeps s (handClock n c s) := by
  refine (onLane_keeps fun l lb => ?_).trans (transmitNext_keeps n _)
  have addrs := putClockRec_addrs c l.clockQueue
  refine ⟨lb.lineRecs, ?_, fun r hr => ?_⟩
  · rw [addrs]
    split
    · exact lb.distinct
    · next new =>
      rw [List.nodup_append]
      refine ⟨lb.distinct, List.nodup_singleton _, fun a ha b hb => ?_⟩
      rw [List.mem_singleton.1 hb]
      rintro rfl
      exact new ha
  · have mem : r.addr ∈ (putClockRec c l.clockQueue).map (·.addr) := List.mem_map_of_mem hr
    have old : ∀ a ∈ l.clockQueue.map (·.addr), a ∈ clockAddrs s.wc.panels n := fun a ha => by
      obtain ⟨d, hd, rfl⟩ := List.mem_map.1 ha
      exact lb.known d hd
    rw [addrs] at mem
    split at mem
    · exact old _ mem
    · rcases List.mem_append.1 mem with m | m
      · exact old _ m
      · rw [List.mem_singleton.1 m]; exact h

@[simp] theorem handClock_places (n : Nat) (c : ClockRec) (s : State) :
    (handClock n c s).wc.panels.map Panel.place = s.wc.panels.map Panel.place := by
  simp [handClock]

/-- The clock record that a panel is handed, when it is a clock panel (R121). -/
def handPanel (text : Bool → List Byte) (holdover : Bool) (s : State) (p : Panel) : State :=
  match p.kind with
  | .clock seconds => handClock p.lane ⟨p.addr, text seconds, holdover⟩ s
  | _ => s

theorem handClocks_eq (text : Bool → List Byte) (holdover : Bool) (s : State) :
    handClocks text holdover s = s.wc.panels.foldl (handPanel text holdover) s := rfl

theorem handPanel_clock (text : Bool → List Byte) (holdover : Bool) (s : State) {p : Panel} {seconds : Bool}
    (h : p.kind = .clock seconds) :
    handPanel text holdover s p = handClock p.lane ⟨p.addr, text seconds, holdover⟩ s := by
  simp [handPanel, h]

theorem handPanel_other (text : Bool → List Byte) (holdover : Bool) (s : State) {p : Panel}
    (h : ∀ seconds, p.kind ≠ .clock seconds) : handPanel text holdover s p = s := by
  unfold handPanel
  split
  · next e => exact absurd e (h _)
  · rfl

@[simp] theorem handPanel_places (text : Bool → List Byte) (holdover : Bool) (s : State) (p : Panel) :
    (handPanel text holdover s p).wc.panels.map Panel.place = s.wc.panels.map Panel.place := by
  unfold handPanel
  split <;> simp

/-- The records of clock panels that stand on the wall keep the bounds. -/
theorem handPanels_keeps (text : Bool → List Byte) (holdover : Bool) (ps : List Panel) (s : State)
    (h : ∀ p ∈ ps, p.place ∈ s.wc.panels.map Panel.place) : Keeps s (ps.foldl (handPanel text holdover) s) := by
  induction ps generalizing s with
  | nil => exact .refl s
  | cons p ps ih =>
    refine .trans ?_ (ih _ fun q hq => by rw [handPanel_places]; exact h q (List.mem_cons_of_mem p hq))
    by_cases e : ∃ seconds, p.kind = .clock seconds
    · obtain ⟨seconds, e⟩ := e
      rw [handPanel_clock text holdover s e]
      refine handClock_keeps ?_
      obtain ⟨q, hq, same⟩ := List.mem_map.1 (h p List.mem_cons_self)
      obtain ⟨kind, lane, addr⟩ : q.kind = p.kind ∧ q.lane = p.lane ∧ q.addr = p.addr := by
        simpa [Panel.place] using same
      exact mem_clockAddrs.2 ⟨q, hq, by simp [clockOn, kind, e, lane], addr⟩
    · rw [handPanel_other text holdover s fun seconds k => e ⟨seconds, k⟩]
      exact .refl s

theorem handClocks_keeps (text : Bool → List Byte) (holdover : Bool) (s : State) :
    Keeps s (handClocks text holdover s) :=
  handPanels_keeps text holdover s.wc.panels s fun _ hp => List.mem_map_of_mem hp

theorem clockRecords_keeps (s : State) : Keeps s (clockRecords s) := handClocks_keeps _ _ s

theorem handBlanks_keeps (s : State) : Keeps s (handBlanks s) :=
  .trans (.foldl (fun _ _ => .foldl (fun _ _ => handRecord_keeps _ _ _) _ _) _ _) (handClocks_keeps _ _ _)

theorem transmissionDone_keeps (n : Nat) (s : State) : Keeps s (transmissionDone n s) := by
  unfold transmissionDone
  split
  · split
    · refine .trans (onLane_keeps fun k b => ?_) (transmitNext_keeps n _)
      exact ⟨b.lineRecs, b.distinct, b.known⟩
    · exact .refl s
  · exact .refl s

end Sys2Proof.Machine


namespace Sys2Proof.Machine

open Sys2Proof.Safety

/-! ### Names -/

/-- A change of the Wall Composer that leaves the cache and the panels alone. -/
theorem Keeps.onWc_of_eq {s : State} {f : WC → WC} (cache : (f s.wc).cache = s.wc.cache)
    (panels : (f s.wc).panels = s.wc.panels) : Keeps s (s.onWc f) :=
  .onWc (by rw [cache]; exact id) (by rw [panels])

theorem startFetch_keeps (s : State) : Keeps s (startFetch s) := by
  unfold startFetch
  split
  · exact .trans (.onWc_of_eq rfl rfl) (request_keeps _ _)
  · exact .refl s

theorem askName_keeps (c : Bool) (i : Nat) (s : State) : Keeps s (askName c i s) := by
  unfold askName
  split
  · split <;> exact .onWc_of_eq rfl rfl
  · exact .trans (.onWc_of_eq rfl rfl) (startFetch_keeps _)

/-- A hit moves an entry and takes none away (R123). -/
theorem cacheTouch_length (i : Nat) (c : List NameEntry) : (cacheTouch i c).length = c.length := by
  have split_length := List.length_eq_length_filter_add (l := c) fun e => e.idx == i
  simp only [cacheTouch, List.length_append, bne]
  omega

/-- A copy that is placed leaves the cache within its bound (R123). -/
theorem cachePut_length {i : Nat} {copy : NameText} {c : List NameEntry} (h : c.length ≤ 96) :
    (cachePut i copy c).length ≤ 96 := by
  have := List.length_filter_le (fun e : NameEntry => e.idx != i) c
  have room : (if 96 ≤ (c.filter fun e => e.idx != i).length then (c.filter fun e => e.idx != i).drop 1
      else c.filter fun e => e.idx != i).length ≤ 95 := by
    split
    · rw [List.length_drop]; omega
    · omega
  simpa [cachePut, Config.cacheLimit] using Nat.succ_le_succ room

theorem lookupName_keeps (c : Bool) (i : Nat) (s : State) : Keeps s (lookupName c i s).1 := by
  unfold lookupName
  split
  · exact .refl s
  · split
    · have touched : s.wc.cache.length ≤ 96 → (cacheTouch i s.wc.cache).length ≤ 96 := by
        rw [cacheTouch_length]; exact id
      exact Keeps.onWc (f := fun x => { x with cache := cacheTouch i x.cache }) touched rfl
    · exact askName_keeps c i s

theorem lookupNames_keeps (c : Bool) (l : List Nat) (s : State) : Keeps s (lookupNames c l s).state := by
  induction l generalizing s with
  | nil => exact .refl s
  | cons i l ih =>
    have h := (lookupName_keeps c i s).trans (ih _)
    unfold lookupNames
    dsimp only
    split <;> exact h

theorem nameReturned_keeps (r : Option NameText) (s : State) : Keeps s (nameReturned r s) := by
  unfold nameReturned
  split
  · exact .refl s
  · refine .trans (.trans (.onCq (fun b => b.of_eq rfl rfl) fun b => pageInv_of_eq b rfl ?_) (.onWc ?_ rfl))
      (startFetch_keeps _)
    · simp only
      split
      · exact Option.map_eq_none_iff.1
      · exact id
    · simp only [onCq_wc]
      split
      · exact cachePut_length
      · exact id

theorem flushNames_keeps (n : Option Nat) (s : State) : Keeps s (flushNames n s) :=
  .onWc (fun b => (List.length_filter_le _ _).trans b) rfl

/-! ### The status page -/

theorem beginPublication_keeps (s : State) : Keeps s (beginPublication s) :=
  .trans (.onXp_of_eq rfl) (request_keeps _ _)

theorem requestPublication_keeps (s : State) : Keeps s (requestPublication s) :=
  .of_blocks (by simp) (by simp) (by simp) (by simp) (by simp) (by simp)

theorem publishCountWritten_keeps (s : State) : Keeps s (publishCountWritten s) :=
  .of_blocks (by simp) (by simp) (by simp) (by simp) (by simp) (by simp)

theorem publishContentWritten_keeps (s : State) : Keeps s (publishContentWritten s) :=
  .of_blocks (by simp) (by simp) (by simp) (by simp) (by simp) (by simp)

theorem publicationFailed_keeps (s : State) : Keeps s (publicationFailed s) :=
  .of_blocks (by simp) (by simp) (by simp) (by simp) (by simp) (by simp)

/-! ### The cue queue (R149, R150) -/

/-- Insertion puts one element more, and where it puts it depends on nothing but the elements before it. -/
theorem insertBy_perm {α : Type} (before : α → α → Bool) (x : α) (l : List α) :
    (insertBy before x l).Perm (x :: l) := by
  induction l with
  | nil => exact .refl _
  | cons y ys ih =>
    unfold insertBy
    split
    · exact (ih.cons y).trans (.swap x y ys)
    · exact .refl _

/-- A sorted list is a permutation of the list. -/
theorem sortBy_perm {α : Type} (before : α → α → Bool) (l : List α) : (sortBy before l).Perm l := by
  induction l with
  | nil => exact .refl _
  | cons x xs ih => exact (insertBy_perm before x _).trans (ih.cons x)

/-- A new cue stands behind every cue of the same or a more urgent priority, so the queue stays in order. -/
theorem insertCue_urgency {c : Cue} {q : List Cue} (h : q.Pairwise fun a b => a.priority ≤ b.priority) :
    (insertCue c q).Pairwise fun a b => a.priority ≤ b.priority := by
  unfold insertCue
  induction q with
  | nil => exact List.pairwise_singleton _ _
  | cons y ys ih =>
    obtain ⟨first, rest⟩ := List.pairwise_cons.1 h
    unfold insertBy
    split
    · next le =>
      refine List.pairwise_cons.2 ⟨fun z hz => ?_, ih rest⟩
      rcases List.mem_cons.1 ((insertBy_perm _ c ys).mem_iff.1 hz) with rfl | m
      · simpa using le
      · exact first z m
    · next gt =>
      have lt : c.priority < y.priority := by simpa using gt
      refine List.pairwise_cons.2 ⟨fun z hz => ?_, h⟩
      rcases List.mem_cons.1 hz with rfl | m
      · exact lt.le
      · exact lt.le.trans (first z m)

theorem insertCue_length (c : Cue) (q : List Cue) : (insertCue c q).length = q.length + 1 := by
  simpa [insertCue] using (insertBy_perm (fun y x : Cue => decide (y.priority ≤ x.priority)) c q).length_eq

/-- Cues that leave the queue keep the bounds of the rest. -/
theorem CuesBounded.sublist {x y : CQ} (b : CuesBounded x) (queue : y.queue.Sublist x.queue)
    (tallyList : y.tallyList = x.tallyList) : CuesBounded y :=
  ⟨queue.length_le.trans b.cues, b.urgency.sublist queue, by rw [tallyList]; exact b.tallies⟩

theorem removeCues_bounded {gone : Cue → Bool} {x : CQ} (b : CuesBounded x) : CuesBounded (removeCues gone x) :=
  b.sublist List.filter_sublist rfl

/-- A full queue takes a cue only for a less urgent one that leaves (R150). -/
theorem enqueueCue_bounded {c : Cue} {x : CQ} (b : CuesBounded x) : CuesBounded (enqueueCue c x) := by
  unfold enqueueCue
  split
  · next room =>
    refine ⟨?_, insertCue_urgency b.urgency, b.tallies⟩
    rw [insertCue_length]
    exact room
  · split
    · exact b.of_eq rfl rfl
    · split
      · refine ⟨?_, insertCue_urgency (b.urgency.sublist (List.dropLast_sublist _)), b.tallies⟩
        have := b.cues
        rw [insertCue_length, List.length_dropLast]
        omega
      · exact b.of_eq rfl rfl

theorem removeCues_keeps (gone : Cue → Bool) (s : State) : Keeps s (s.onCq (removeCues gone)) :=
  .onCq removeCues_bounded fun b => pageInv_of_eq b rfl id

theorem createCue_keeps (c : Cue) (s : State) : Keeps s (s.onCq (createCue c)) := by
  refine .onCq (fun b => enqueueCue_bounded (removeCues_bounded (b.of_eq rfl rfl))) fun b => ?_
  rw [createCue_frame]
  exact pageInv_of_eq b rfl id

theorem tryOpenPage_keeps (s : State) : Keeps s (tryOpenPage s) := by
  unfold tryOpenPage
  split
  · exact .trans (.onCq (fun b => b.of_eq rfl rfl) fun b => pageInv_of_eq b rfl id) (request_keeps _ _)
  · exact .refl s

theorem takeRequest_keeps (r : CueReq) (s : State) : Keeps s (takeRequest r s) := by
  unfold takeRequest
  split
  · exact removeCues_keeps _ s
  · split
    · exact .refl s
    · exact (createCue_keeps _ s).trans (tryOpenPage_keeps _)

theorem takeRemoval_keeps (l : List Nat) (s : State) : Keeps s (takeRemoval l s) := removeCues_keeps _ s

/-! ### Tallies -/

/-- A change of the Cue Sequencer that leaves the queue, the tally list, the page and the write alone. -/
theorem Keeps.onCq_of_eq {s : State} {f : CQ → CQ} (queue : (f s.cq).queue = s.cq.queue)
    (tallyList : (f s.cq).tallyList = s.cq.tallyList) (openPage : (f s.cq).openPage = s.cq.openPage)
    (writing : (f s.cq).writing = s.cq.writing) : Keeps s (s.onCq f) :=
  .onCq (fun b => b.of_eq queue tallyList) fun b => pageInv_of_eq b openPage fun h => writing ▸ h

theorem startTally_keeps (s : State) : Keeps s (startTally s) := by
  unfold startTally
  split
  · exact .trans (.onCq_of_eq rfl rfl rfl rfl) (request_keeps _ _)
  · exact .refl s

theorem tallyException_keeps (s : State) : Keeps s (tallyException s) := .onCq_of_eq rfl rfl rfl rfl

theorem addTally_keeps (c : Cue) (s : State) : Keeps s (addTally c s) := by
  unfold addTally
  split_ifs with h1 h2 h3
  · exact .refl s
  · exact tallyException_keeps s
  · exact tallyException_keeps s
  · refine .trans (.onCq (fun b => ⟨b.cues, b.urgency, ?_⟩) fun b => pageInv_of_eq b rfl id) (startTally_keeps _)
    simp only [Config.tallyLimit] at h3
    simp only [List.length_append, List.length_singleton]
    omega

theorem endTally_keeps (s : State) : Keeps s (endTally s) := by
  refine .trans (.onCq (fun b => ⟨b.cues, b.urgency, ?_⟩) fun b => pageInv_of_eq b rfl id) (startTally_keeps _)
  have := b.tallies
  simp only [List.length_drop]
  omega

theorem tallyHalfRead_keeps (h : Nat) (s : State) : Keeps s (tallyHalfRead h s) := by
  unfold tallyHalfRead
  split
  · split <;> exact .trans (.onCq_of_eq rfl rfl rfl rfl) (request_keeps _ _)
  · exact .refl s

theorem tallyWordRead_keeps (w : Nat) (s : State) : Keeps s (tallyWordRead w s) := by
  unfold tallyWordRead
  split
  · exact .trans (.onCq_of_eq rfl rfl rfl rfl) (request_keeps _ _)
  · exact .refl s

theorem tallyHalfWritten_keeps (s : State) : Keeps s (tallyHalfWritten s) := by
  unfold tallyHalfWritten
  split
  · exact .trans (.onCq_of_eq rfl rfl rfl rfl) (request_keeps _ _)
  · exact endTally_keeps s
  · exact .refl s

theorem tallyWordWritten_keeps (s : State) : Keeps s (tallyWordWritten s) := by
  unfold tallyWordWritten
  split
  · exact endTally_keeps s
  · exact .refl s

theorem tallyFailed_keeps (s : State) : Keeps s (tallyFailed s) := (tallyException_keeps s).trans (endTally_keeps _)

/-! ### Cue pages (R153 to R165) -/

theorem progressWrite_keeps (s : State) : Keeps s (progressWrite s) := by
  unfold progressWrite
  split
  · split
    · exact .trans (.onCq (fun b => b.of_eq rfl rfl) fun b => pageInv_of_eq b rfl (by simp)) (request_keeps _ _)
    · exact .refl s
  · exact .refl s

/-- Progress of the write leaves the open page alone. -/
@[simp] theorem progressWrite_openPage (s : State) : (progressWrite s).cq.openPage = s.cq.openPage := by
  unfold progressWrite
  split
  · split <;> simp
  · rfl

/-- A page that takes a cue keeps its bound when there is a record left for the cue. -/
theorem takeFirstEligible_page {s : State} (filling : ∀ p, s.cq.openPage = some p → p.count < 16)
    (opening : ∀ p, s.cq.openPage = some p → p.phase = .opening → p.count = 0) :
    PageInv (takeFirstEligible s).cq := by
  unfold takeFirstEligible
  split
  · next p c hp hc =>
    refine (progressWrite_keeps _).page ⟨?_, ?_, fun _ _ _ w => nomatch w⟩
    · rintro q hq
      obtain rfl : ({ p with count := p.count + 1 } : OpenPage) = q := by simpa using hq
      exact filling p hp
    · rintro q hq ho
      obtain rfl : ({ p with count := p.count + 1 } : OpenPage) = q := by simpa using hq
      exact (congrArg (· + 1) (opening p hp ho)).le
  · exact ⟨fun p hp => (filling p hp).le, fun p hp ho => by rw [opening p hp ho]; exact Nat.zero_le 1,
      fun p hp _ _ => filling p hp⟩

/-- A take keeps the bounds: a cue leaves the queue, and its names are looked up. -/
theorem takeFirstEligible_bounds (s : State) : KeepsBounds s (takeFirstEligible s) := by
  unfold takeFirstEligible
  split
  · refine .trans ?_ (progressWrite_keeps _).toKeepsBounds
    refine .trans (.trans ?_ (lookupNames_keeps _ _ _).toKeepsBounds) (.onCq fun b => b.of_eq rfl rfl)
    exact .onCq fun b => b.sublist List.erase_sublist rfl
  · exact (Keeps.refl s).toKeepsBounds

/-- The writer takes a cue only into a page that is filling, while no cue is being written. -/
theorem writerTest_keeps (s : State) : Keeps s (writerTest s) := by
  unfold writerTest
  split
  · next may =>
    refine ⟨takeFirstEligible_bounds s, fun b => ?_⟩
    simp only [mayTakeCue, Bool.and_eq_true, Option.any_eq_true, decide_eq_true_eq, Option.isNone_iff_eq_none] at may
    obtain ⟨⟨⟨⟨p, hp, filling⟩, idle⟩, -⟩, -⟩ := may
    refine takeFirstEligible_page (fun q hq => ?_) fun q hq ho => ?_
    · obtain rfl : p = q := Option.some.inj (hp.symm.trans hq)
      exact b.room p hp filling idle
    · obtain rfl : p = q := Option.some.inj (hp.symm.trans hq)
      rw [filling] at ho
      cases ho
  · exact .refl s

/-- A page that closes keeps its count, and takes no further cue. -/
theorem beginClose_page {c : CloseCauses} {s : State} (h : ∀ p, s.cq.openPage = some p → p.count ≤ 16) :
    PageInv (beginClose c s).cq := by
  unfold beginClose
  split
  · next none => exact pageInv_of_none none
  · next p hp =>
    refine (request_keeps _ _).page ⟨?_, ?_, ?_⟩ <;> rintro q hq <;>
      obtain rfl : ({ p with causes := c, phase := .closing s.cq.dropped s.cq.superseded } : OpenPage) = q := by
        simpa using hq
    · exact h p hp
    · exact fun ho => nomatch ho
    · exact fun hf => nomatch hf

theorem beginClose_bounds (c : CloseCauses) (s : State) : KeepsBounds s (beginClose c s) := by
  unfold beginClose
  split
  · exact (Keeps.refl s).toKeepsBounds
  · exact .trans (.onCq fun b => b.of_eq rfl rfl) (request_keeps _ _).toKeepsBounds

theorem beginClose_keeps (c : CloseCauses) (s : State) : Keeps s (beginClose c s) :=
  ⟨beginClose_bounds c s, fun b => beginClose_page b.count⟩

theorem pageHeaderWritten_keeps (s : State) : Keeps s (pageHeaderWritten s) := by
  unfold pageHeaderWritten
  split
  · exact .refl s
  · exact request_keeps _ s

theorem pageClosed_keeps (s : State) : Keeps s (pageClosed s) := by
  refine .trans ?_ (tryOpenPage_keeps _)
  refine .trans ((raiseAttn_keeps _ s).trans (.onFu_of_eq rfl rfl)) (.onCq (fun b => b.of_eq rfl rfl) fun _ => ?_)
  exact pageInv_of_none rfl

/-- A tally joins the list, or is an exception, and the open page and the write stay. -/
@[simp] theorem addTally_page (c : Cue) (s : State) :
    (addTally c s).cq.openPage = s.cq.openPage ∧ (addTally c s).cq.writing = s.cq.writing := by
  unfold addTally startTally tallyException
  split_ifs
  · simp
  · simp
  · simp
  · split <;> simp

/-- A record write that ends leaves a page that closes at its sixteenth cue, and otherwise has a record left (R161). -/
theorem recordWritten_keeps (s : State) : Keeps s (recordWritten s) := by
  unfold recordWritten
  split
  · next w p hw hp =>
    dsimp only
    set s0 := s.onCq fun x => { x with writing := none, openPage := some { p with firstCue := some (p.firstCue.getD s.sc.u) } }
    have bounds : KeepsBounds s (addTally w.cue s0) :=
      .trans (.onCq fun b => b.of_eq rfl rfl) (addTally_keeps w.cue s0).toKeepsBounds
    have page : (addTally w.cue s0).cq.openPage = some { p with firstCue := some (p.firstCue.getD s.sc.u) } :=
      (addTally_page w.cue s0).1
    split
    · refine ⟨bounds.trans (beginClose_bounds _ _), fun b => beginClose_page fun q hq => ?_⟩
      rw [page] at hq
      obtain rfl := Option.some.inj hq
      exact b.count p hp
    · next none =>
      have room : p.count < 16 := by
        by_contra full
        exact none (by simp [CloseCauses.any, Config.pageCues, Nat.not_lt.1 full])
      refine ⟨bounds.trans (writerTest_keeps _).toKeepsBounds, fun b => (writerTest_keeps _).page ?_⟩
      refine ⟨?_, ?_, ?_⟩ <;> intro q hq <;> rw [page] at hq <;> obtain rfl := Option.some.inj hq
      · exact room.le
      · exact fun ho => b.opening p hp ho
      · exact fun _ _ => room
  · exact .refl s

theorem holdExpired_keeps (s : State) : Keeps s (holdExpired s) := by
  unfold holdExpired
  split
  · exact .refl s
  · next p hp =>
    split
    · next filling _ =>
      split
      · split
        · next writing =>
          refine .onCq (fun b => b.of_eq rfl rfl) fun b => ⟨?_, ?_, ?_⟩ <;> intro q hq <;>
            obtain rfl := Option.some.inj hq
          · exact b.count p hp
          · exact fun ho => b.opening p hp ho
          · exact fun hf hw => b.room p hp hf hw
        · exact beginClose_keeps _ s
      · exact .refl s
    · exact .refl s

/-- A page that opens takes at most its first cue while its OPEN write is outstanding (R160). -/
theorem openAtCursor_keeps (s : State) : Keeps s (openAtCursor s) := by
  have bounds : KeepsBounds s (openAtCursor s) :=
    .trans (.trans (.onCq fun b => b.of_eq rfl rfl) (request_keeps _ _).toKeepsBounds) (takeFirstEligible_bounds _)
  refine ⟨bounds, fun _ => takeFirstEligible_page ?_ ?_⟩ <;> intro q hq
  all_goals
    simp only [request_frame, onCq_cq] at hq
    obtain rfl := Option.some.inj hq
  · exact Nat.zero_lt_succ 15
  · exact fun _ => rfl

theorem setRetry_keeps (s : State) : Keeps s (setRetry s) := .onCq_of_eq rfl rfl rfl rfl

theorem stateWordReturned_keeps (w : Nat) (s : State) : Keeps s (stateWordReturned w s) := by
  unfold stateWordReturned
  split
  · split
    · exact .trans (.onCq_of_eq rfl rfl rfl rfl) (openAtCursor_keeps _)
    · exact .onCq_of_eq rfl rfl rfl rfl
  · exact setRetry_keeps s

theorem openWritten_keeps (s : State) : Keeps s (openWritten s) := by
  unfold openWritten
  split
  · exact .refl s
  · next p hp =>
    split
    · next opening =>
      refine .trans (.onCq (fun b => b.of_eq rfl rfl) fun b => ⟨?_, ?_, ?_⟩) (progressWrite_keeps _) <;> intro q hq <;>
        obtain rfl := Option.some.inj hq
      · exact b.count p hp
      · exact fun ho => nomatch ho
      · exact fun _ _ => Nat.lt_of_le_of_lt (b.opening p hp opening) (by decide)
    · exact .refl s

theorem retryReached_keeps (s : State) : Keeps s (retryReached s) := by
  unfold retryReached
  split
  · split
    · exact .trans (.onCq_of_eq rfl rfl rfl rfl) (tryOpenPage_keeps _)
    · exact .refl s
  · exact .refl s

theorem pageWriteFault_keeps (s : State) : Keeps s (pageWriteFault s) := by
  unfold pageWriteFault
  split
  · exact .refl s
  · exact .trans (.onCq (fun b => b.of_eq rfl rfl) fun _ => pageInv_of_none rfl) (tryOpenPage_keeps _)

theorem framesReached_keeps (s : State) : Keeps s (framesReached s) := by
  refine .trans (.trans (.onCq (fun b => ⟨?_, ?_, b.tallies⟩) fun b => pageInv_of_eq b rfl id) (writerTest_keeps _))
    (tryOpenPage_keeps _)
  · simpa using b.cues
  · refine List.pairwise_map.2 (b.urgency.imp fun {x y} h => ?_)
    split <;> split <;> exact h

/-! ### Frames -/

theorem emitRow_keeps (full : Bool) (copies : List (Nat × NameText)) (i : Nat) (p : Panel) (r : Nat × SymRow) (s : State) :
    Keeps s (emitRow full copies i p r s) := by
  unfold emitRow
  dsimp only
  split
  · exact handRecord_keeps _ _ s
  · exact .refl s

theorem emitRows_keeps (s : State) : Keeps s (emitRows s) := by
  unfold emitRows
  split
  · exact .refl s
  · exact .trans (.onWc_of_eq rfl rfl) (.foldl (fun _ _ => .foldl (fun _ _ => emitRow_keeps _ _ _ _ _ _) _ _) _ _)

theorem progressNames_keeps (s : State) : Keeps s (progressNames s) := by
  unfold progressNames
  split
  · split
    · exact emitRows_keeps s
    · exact .refl s
  · exact .refl s

/-- The turn of a page leaves every panel in its place. -/
@[simp] theorem turnPages_places (sn : Snapshot) (ps : List Panel) :
    (turnPages sn ps).map Panel.place = ps.map Panel.place := by
  unfold turnPages
  rw [List.map_map]
  refine List.map_congr_left fun p _ => ?_
  simp only [Function.comp_apply]
  split <;> rfl

theorem startFrame_keeps (s : State) : Keeps s (startFrame s) := by
  unfold startFrame
  refine .trans (.trans (.trans ?_ (lookupNames_keeps _ _ _)) (.onWc_of_eq rfl rfl)) (progressNames_keeps _)
  exact .onWc id (turnPages_places _ _)

theorem completeFrame_keeps (s : State) : Keeps s (completeFrame s) :=
  .trans (.trans (.onWc_of_eq rfl rfl) (requestPublication_keeps _)) (framesReached_keeps _)

theorem progressFrame_keeps (s : State) : Keeps s (progressFrame s) := by
  unfold progressFrame
  split
  · dsimp only
    have ended := completeFrame_keeps s
    split
    · have cleared : Keeps (completeFrame s) ((completeFrame s).onWc fun x => { x with frameWanted := false }) :=
        .onWc_of_eq rfl rfl
      have begun := (ended.trans cleared).trans (startFrame_keeps _)
      split
      · exact begun.trans (completeFrame_keeps _)
      · exact begun
    · exact ended
  · exact .refl s

theorem requestFrame_keeps (s : State) : Keeps s (requestFrame s) := by
  unfold requestFrame
  split
  · split
    · exact .onWc_of_eq rfl rfl
    · exact (startFrame_keeps s).trans (progressFrame_keeps _)
  · exact .refl s

end Sys2Proof.Machine


namespace Sys2Proof.Machine

open Sys2Proof.Safety

/-! ### The Roster Unit -/

/-- An empty moved-from list has what R65 asks. -/
theorem movedFromInv_of_nil {d : Departure} (h : d.movedFrom = []) : MovedFromInv d :=
  ⟨by simp [h], by simp [h], by simp [h], fun _ => h, fun _ => h, fun _ => h⟩

/-- What R65 asks looks at the platform, the list, the flash end and the state. -/
theorem movedFromInv_of_eq {d e : Departure} (i : MovedFromInv d) (platform : e.platform = d.platform)
    (movedFrom : e.movedFrom = d.movedFrom) (flashEnd : e.flashEnd = d.flashEnd)
    (state : e.state = .cancelled → d.state = .cancelled) : MovedFromInv e := by
  refine ⟨?_, ?_, ?_, ?_, ?_, ?_⟩ <;> simp only [platform, movedFrom, flashEnd]
  · exact i.short
  · exact i.distinct
  · exact i.elsewhere
  · exact i.dark
  · exact i.unassigned
  · exact fun h => i.cancelled (state h)

/-- A change of departures that keeps what R65 asks of each keeps all. -/
theorem setDep_keeps {id : Nat} {f : Departure → Departure} (s : State)
    (h : ∀ d, MovedFromInv d → MovedFromInv (f d)) : Keeps s (setDep id f s) := by
  refine .onRu (fun b d hd => ?_) fun b => b
  obtain ⟨e, he, rfl⟩ := List.mem_map.1 hd
  split
  · exact h e (b e he)
  · exact b e he

theorem enterState_keeps {st : DepState} (h : st ≠ .cancelled) (id : Nat) (s : State) : Keeps s (enterState st id s) :=
  setDep_keeps s fun _ i => movedFromInv_of_eq i rfl rfl rfl fun e => absurd e h

theorem promote_keeps (d : Departure) (s : State) : Keeps s (promote d s) := by
  have entered := enterState_keeps (st := .boarding) (by decide) d.id s
  unfold promote
  dsimp only
  split
  · exact entered
  · refine .trans (entered.trans (setDep_keeps _ fun _ i => ?_)) (takeRequest_keeps _ _)
    exact movedFromInv_of_eq i rfl rfl rfl id

theorem beginClosing_keeps (d : Departure) (s : State) : Keeps s (beginClosing d s) := by
  have entered := enterState_keeps (st := .closing) (by decide) d.id s
  unfold beginClosing
  dsimp only
  split
  · exact entered
  · refine .trans (entered.trans (setDep_keeps _ fun _ i => ?_)) (takeRequest_keeps _ _)
    exact movedFromInv_of_eq i rfl rfl rfl id

theorem depart_keeps (id : Nat) (s : State) : Keeps s (depart id s) :=
  ((enterState_keeps (by decide) id s).trans (setDep_keeps _ fun _ _ => movedFromInv_of_nil rfl)).trans
    (takeRequest_keeps _ _)

/-- Departures and notices that leave keep all. -/
theorem Keeps.onRu_sublist {s : State} {f : RU → RU} (roster : (f s.ru).roster.Sublist s.ru.roster)
    (notices : (f s.ru).notices.length ≤ s.ru.notices.length) (next : (f s.ru).nextPosting = s.ru.nextPosting) :
    Keeps s (s.onRu f) :=
  .onRu (fun b d hd => b d (roster.mem hd)) fun b => ⟨notices.trans b.1, by rw [next]; exact b.2⟩

theorem retire_keeps (id : Nat) (s : State) : Keeps s (retire id s) := by
  have silent : Keeps (takeRemoval [id] s)
      ((takeRemoval [id] s).onRu fun x => { x with notices := dropDepNotices id x.notices }) :=
    .onRu_sublist (.refl _) (List.length_filter_le _ _) rfl
  have gone (t : State) : Keeps t (t.onRu fun x => { x with roster := x.roster.filter fun d => d.id != id }) :=
    .onRu_sublist List.filter_sublist le_rfl rfl
  exact (((takeRemoval_keeps [id] s).trans silent).trans (takeRequest_keeps _ _)).trans (gone _)

theorem visit_keeps (a : State × Bool) (id : Nat) : Keeps a.1 (visit a id).1 := by
  unfold visit
  split
  · next f h =>
    obtain ⟨d, -, hd⟩ := Option.bind_eq_some_iff.1 h
    rcases transitionOf_cases hd with rfl | rfl | rfl | rfl | rfl
    · exact retire_keeps _ _
    · exact promote_keeps _ _
    · exact depart_keeps _ _
    · exact beginClosing_keeps _ _
    · exact enterState_keeps (by decide) _ _
  · exact .refl _

theorem evaluationPass_keeps (s : State) : Keeps s (evaluationPass s).1 := by
  have pass : ∀ (l : List Nat) (a : State × Bool), Keeps a.1 (l.foldl visit a).1 := by
    intro l
    induction l with
    | nil => exact fun a => .refl a.1
    | cons id l ih => exact fun a => (visit_keeps a id).trans (ih (visit a id))
  exact pass _ (s, false)

theorem evaluate_keeps (s : State) : Keeps s (evaluate s) := by
  unfold evaluate
  split
  · split
    · exact (evaluationPass_keeps s).trans (requestFrame_keeps _)
    · exact evaluationPass_keeps s
  · exact .refl s

theorem absentEdge_keeps (p : Nat) (s : State) : Keeps s (absentEdge p s) := by
  refine .trans ?_ (requestFrame_keeps _)
  unfold absentEffect
  split
  · exact .refl s
  · split
    · exact enterState_keeps (by decide) _ s
    · exact depart_keeps _ s

theorem carryOne_keeps (s : State) (id : Nat) : Keeps s (carryOne s id) := by
  unfold carryOne
  split
  · exact .refl s
  · split
    · exact retire_keeps id s
    · exact setDep_keeps s fun _ i => movedFromInv_of_eq i rfl rfl rfl (fun h => h)

theorem carry_keeps (s : State) : Keeps s (carry s) := .foldl carryOne_keeps _ s

theorem endFlashes_keeps (s : State) : Keeps s (endFlashes s) := by
  unfold endFlashes
  split
  · refine .trans (.onRu (fun b d hd => ?_) id) (requestFrame_keeps _)
    obtain ⟨e, he, rfl⟩ := List.mem_map.1 hd
    split
    · exact movedFromInv_of_nil rfl
    · exact b e he
  · exact .refl s

theorem expireNotices_keeps (s : State) : Keeps s (expireNotices s) := by
  unfold expireNotices
  split
  · exact .trans (.onRu_sublist (.refl _) (List.length_filter_le _ _) rfl) (requestFrame_keeps _)
  · exact .refl s

theorem speakNotice_keeps (s : State) (id : Nat) : Keeps s (speakNotice s id) :=
  .trans (.onRu_sublist (.refl _) (List.length_map _).le rfl) (takeRequest_keeps _ _)

theorem repeatNotices_keeps (s : State) : Keeps s (repeatNotices s) := by
  unfold repeatNotices
  split
  · exact .foldl speakNotice_keeps _ s
  · exact .refl s

/-! ### The Station Clock -/

theorem clockReport_keeps (sub : ClockSub) (o : Option Int) (s : State) : Keeps s (clockReport sub o s) :=
  (takeRequest_keeps _ s).trans (raiseAttn_keeps _ _)

theorem takeStationSecond_keeps (s : State) : Keeps s (takeStationSecond s) := by
  unfold takeStationSecond
  dsimp only
  split
  · exact (evaluate_keeps s).trans (clockRecords_keeps _)
  · exact evaluate_keeps s

theorem takeStationMinute_keeps (s : State) : Keeps s (takeStationMinute s) := requestFrame_keeps s

theorem rollOver_keeps (t : Nat) (s : State) : Keeps s (rollOver t s) :=
  .trans (.trans (.onSc _) (carry_keeps _)) (clockReport_keeps _ _ _)

theorem secondAndMinute_keeps (s : State) : Keeps s (secondAndMinute s) :=
  (takeStationSecond_keeps s).trans (takeStationMinute_keeps _)

theorem crossings_keeps (before : Nat) (s : State) : Keeps s (crossings before s) := by
  have second : Keeps s (if before / 1000 = s.sc.t / 1000 then s else takeStationSecond s) := by
    split
    · exact .refl s
    · exact takeStationSecond_keeps s
  unfold crossings
  dsimp only
  split
  · exact second
  · exact second.trans (takeStationMinute_keeps _)

theorem advance_keeps (n : Nat) (s : State) : Keeps s (advance n s) := by
  unfold advance
  split
  · exact .trans (.onSc _) (crossings_keeps _ _)
  · exact (rollOver_keeps _ s).trans (secondAndMinute_keeps _)

theorem slewPoint_keeps (s : State) : Keeps s (slewPoint s) := .trans (.onSc _) (advance_keeps _ _)

theorem slewMark_keeps (o : Int) (s : State) : Keeps s (slewMark o s) := by
  unfold slewMark
  dsimp only
  split
  · exact .onSc _
  · exact .trans (.onSc _) (clockReport_keeps _ _ _)

theorem stepTime_keeps (o : Int) (s : State) : Keeps s (stepTime o s) := by
  unfold stepTime
  dsimp only
  split
  · exact .onSc _
  · exact rollOver_keeps _ s

theorem stepClock_keeps (o : Int) (s : State) : Keeps s (stepClock o s) :=
  .trans (.trans (.trans (.trans (stepTime_keeps o s) (.onSc _)) (evaluate_keeps _)) (clockReport_keeps _ _ _))
    (secondAndMinute_keeps _)

theorem stepMark_keeps (o : Int) (s : State) : Keeps s (stepMark o s) := by
  unfold stepMark
  split
  · split
    · exact stepClock_keeps o s
    · exact .onSc _
  · exact .onSc _

theorem disciplineMark_keeps (s : State) : Keeps s (disciplineMark s) := by
  unfold disciplineMark
  dsimp only
  split
  · exact slewMark_keeps _ s
  · exact stepMark_keeps _ s

theorem takeMark_keeps (s : State) : Keeps s (takeMark s) := by
  unfold takeMark
  split
  · exact .trans (.onSc _) (disciplineMark_keeps _)
  · exact .refl s

theorem enterHoldover_keeps (s : State) : Keeps s (enterHoldover s) := .trans (.onSc _) (clockReport_keeps _ _ _)

theorem setTime_keeps (w d : Nat) (s : State) : Keeps s (setTime w d s) := by
  unfold setTime
  dsimp only
  split
  · exact .trans (.trans (rollOver_keeps _ s) (.onSc _)) (clockReport_keeps _ _ _)
  · exact .trans (.onSc _) (clockReport_keeps _ _ _)

theorem setTimeEvents_keeps (s : State) : Keeps s (setTimeEvents s) :=
  (evaluate_keeps s).trans (secondAndMinute_keeps _)

/-! ### Contacts -/

/-- A change of a platform record that keeps its history's bound keeps all. -/
theorem setPlatform_keeps {p : Nat} {f : PlatformRec → PlatformRec} (s : State)
    (h : ∀ r, r.history.length ≤ 8 → (f r).history.length ≤ 8) : Keeps s (setPlatform p f s) := by
  unfold setPlatform
  split
  · exact .refl s
  · refine .onPu fun b q hq => ?_
    obtain ⟨n, hn⟩ := List.getElem?_of_mem hq
    rw [List.getElem?_modify] at hn
    obtain ⟨r, hr, rfl⟩ := Option.map_eq_some_iff.1 hn
    have bound := b r (List.mem_of_getElem? hr)
    split
    · exact h r bound
    · exact bound

theorem takeLevel_keeps (p : Nat) (level : Bool) (s : State) : Keeps s (takeLevel p level s) := by
  by_cases h : s.xp.run = .running
  · rw [takeLevel_running h]
    refine setPlatform_keeps s fun r b => ?_
    rw [levelTaken_frame]
    exact b
  · rw [takeLevel_of_ne h]
    exact .refl s

/-- A history with one more change stays within its bound (R56). -/
theorem appendChange_length {u : Nat} {h : List Nat} (b : h.length ≤ 8) : (appendChange u h).length ≤ 8 := by
  have room : (if 8 ≤ h.length then h.drop 1 else h).length ≤ 7 := by
    split
    · rw [List.length_drop]; omega
    · omega
  simpa [appendChange, Config.historyLimit] using Nat.succ_le_succ room

theorem contactFaults_keeps (p : Nat) (s : State) : Keeps s (contactFaults p s) := by
  refine .trans (.trans (.trans (setPlatform_keeps s fun r _ => ?_) (takeRequest_keeps _ _)) (raiseAttn_keeps _ _))
    (requestFrame_keeps _)
  exact Nat.zero_le 8

theorem acceptChange_keeps (p : Nat) (present : Bool) (s : State) : Keeps s (acceptChange p present s) := by
  unfold acceptChange
  dsimp only
  refine .trans (.trans ?_ (takeRequest_keeps _ _)) (requestFrame_keeps _)
  split
  · exact setPlatform_keeps s fun _ => appendChange_length
  · exact .trans (setPlatform_keeps s fun _ => appendChange_length) (absentEdge_keeps p _)

theorem endBaseline_keeps (p : Nat) (present : Bool) (s : State) : Keeps s (endBaseline p present s) := by
  refine .trans (.trans (setPlatform_keeps s fun r b => ?_) (takeRequest_keeps _ _)) (requestFrame_keeps _)
  exact b

theorem pendingExpired_keeps (p : Nat) (present : Bool) (s : State) : Keeps s (pendingExpired p present s) := by
  unfold pendingExpired
  split
  · exact endBaseline_keeps p present s
  · exact .refl s
  all_goals
    split
    · exact contactFaults_keeps p s
    · exact acceptChange_keeps p present s

theorem startBaseline_keeps (p : Nat) (s : State) : Keeps s (startBaseline p s) := by
  unfold startBaseline
  split
  · exact .refl s
  · exact setPlatform_keeps s fun _ _ => Nat.zero_le 8

theorem restoreContact_keeps (p : Nat) (s : State) : Keeps s (restoreContact p s) := by
  have forgotten : Keeps s (setPlatform p forgetContact s) := setPlatform_keeps s fun _ _ => Nat.zero_le 8
  unfold restoreContact
  dsimp only
  split
  · exact forgotten.trans (startBaseline_keeps p _)
  · exact forgotten

theorem forgetContacts_keeps (s : State) : Keeps s (forgetContacts s) := by
  refine .onPu fun _ q hq => ?_
  obtain ⟨r, -, rfl⟩ := List.mem_map.1 hq
  exact Nat.zero_le 8

/-! ### Field lines -/

theorem setLine_keeps (line : Nat) (f : FieldLine → FieldLine) (s : State) : Keeps s (setLine line f s) :=
  .onFu_of_eq rfl rfl

theorem contactSample_keeps (line : Nat) (level driven : Bool) (s : State) :
    Keeps s (contactSample line level driven s) := by
  unfold contactSample
  split
  · unfold holdSample
    split
    · exact .refl s
    · dsimp only
      split
      · exact (setLine_keeps _ _ s).trans (takeLevel_keeps _ _ _)
      · exact setLine_keeps _ _ s
  · exact .refl s

theorem markSample_keeps (level : Bool) (s : State) : Keeps s (markSample level s) := by
  unfold markSample
  split
  · exact .refl s
  · split
    · exact .refl s
    · dsimp only
      split
      · exact (setLine_keeps _ _ s).trans (takeMark_keeps _)
      · exact setLine_keeps _ _ s

theorem onDims_keeps (f : Nat → Dim → Dim) (s : State) : Keeps s (onDims f s) := .onFu_of_eq rfl rfl

theorem rampDims_keeps (s : State) : Keeps s (rampDims s) := by
  unfold rampDims
  split
  · exact onDims_keeps _ s
  · exact .refl s

/-- The samples with one more stay within their bound (R138). -/
theorem appendSample_length {x : Nat} {h : List Nat} (b : h.length ≤ 8) : (appendSample x h).length ≤ 8 := by
  have room : (if 8 ≤ h.length then h.drop 1 else h).length ≤ 7 := by
    split
    · rw [List.length_drop]; omega
    · omega
  simpa [appendSample, Config.sampleLimit] using Nat.succ_le_succ room

theorem sampleSensors_keeps (r : Nat → Nat) (s : State) : Keeps s (sampleSensors r s) := by
  refine .onFu fun b => ⟨fun h hh => ?_, b.clockPanels, b.lanes⟩
  obtain ⟨⟨old, k⟩, hk, rfl⟩ := List.mem_map.1 hh
  have bound := b.samples old (List.fst_mem_of_mem_zipIdx hk)
  split
  · exact appendSample_length bound
  · exact bound

end Sys2Proof.Machine


namespace Sys2Proof.Machine

open Sys2Proof.Safety

/-! ### The working copy of a sheet (R65, R80 to R92) -/

/-- What the working copy holds of a moved-from list: what R65 asks, but that the flash end of a departure whose flash the
commit will start is not set yet. -/
structure MovedFromWork (r : WorkDep) : Prop where
  short : r.dep.movedFrom.length ≤ 3
  distinct : r.dep.movedFrom.Nodup
  elsewhere : ∀ p, r.dep.platform = some p → p ∉ r.dep.movedFrom
  dark : r.flash = false → r.dep.flashEnd = none → r.dep.movedFrom = []
  unassigned : r.dep.platform = none → r.dep.movedFrom = []
  cancelled : r.dep.state = .cancelled → r.dep.movedFrom = []

/-- Every record of the working copy holds it. -/
def Work.Sound (w : Work) : Prop := ∀ r ∈ w.deps, MovedFromWork r

/-- An empty moved-from list holds it. -/
theorem movedFromWork_of_nil {r : WorkDep} (h : r.dep.movedFrom = []) : MovedFromWork r :=
  ⟨by simp [h], by simp [h], by simp [h], fun _ _ => h, fun _ => h, fun _ => h⟩

/-- An entry that leaves platform, list, flash end and flash mark alone, and cancels nothing. -/
theorem movedFromWork_of_eq {r q : WorkDep} (i : MovedFromWork r) (platform : q.dep.platform = r.dep.platform)
    (movedFrom : q.dep.movedFrom = r.dep.movedFrom) (flashEnd : q.dep.flashEnd = r.dep.flashEnd)
    (flash : q.flash = r.flash) (state : q.dep.state = .cancelled → r.dep.state = .cancelled) : MovedFromWork q := by
  refine ⟨?_, ?_, ?_, ?_, ?_, ?_⟩ <;> simp only [platform, movedFrom, flashEnd, flash]
  · exact i.short
  · exact i.distinct
  · exact i.elsewhere
  · exact i.dark
  · exact i.unassigned
  · exact fun h => i.cancelled (state h)

/-- A SET_PLATFORM entry keeps it (R65, R66). -/
theorem movePlatform_movedFrom {r : WorkDep} (i : MovedFromWork r) (new : Option Nat) :
    MovedFromWork (movePlatform new r) := by
  unfold movePlatform
  by_cases same : r.dep.platform = new
  · rw [if_pos same]; exact i
  by_cases cancelled : r.dep.state = .cancelled
  · rw [if_neg same, if_pos cancelled]
    exact movedFromWork_of_nil (i.cancelled cancelled)
  rw [if_neg same, if_neg cancelled]
  cases hp : r.dep.platform with
  | none =>
    cases new with
    | none => exact absurd hp same
    | some p => exact movedFromWork_of_nil (i.unassigned hp)
  | some old =>
    cases new with
    | none => exact movedFromWork_of_nil rfl
    | some p =>
      have ne : old ≠ p := by rintro rfl; exact same hp
      have away := i.elsewhere old hp
      obtain ⟨-, gone, short, nodup⟩ := movedFromList_spec i.distinct away ne
      rw [← movedFromAfter_eq p i.short away] at gone short nodup
      refine ⟨short, nodup, ?_, (fun h => nomatch h), (fun h => nomatch h), fun h => absurd h cancelled⟩
      rintro q ⟨⟩
      exact gone

/-- The commit's stamps and flash ends leave each departure with what R65 asks (R91 steps 3 and 4). -/
theorem settleDep_movedFrom {r : WorkDep} (i : MovedFromWork r) (u flashTime : Nat) (deps : List WorkDep) :
    MovedFromInv (settleDep u flashTime deps r) := by
  have stamped : MovedFromInv (stampDep u flashTime r) := by
    unfold stampDep
    dsimp only
    split
    · split
      · exact movedFromInv_of_nil rfl
      · split <;> exact ⟨i.short, i.distinct, i.elsewhere, (fun h => nomatch h), i.unassigned, i.cancelled⟩
    · next dark =>
      have off : r.flash = false := by simpa using dark
      split <;> exact ⟨i.short, i.distinct, i.elsewhere, i.dark off, i.unassigned, i.cancelled⟩
  unfold settleDep
  dsimp only
  split
  · exact movedFromInv_of_eq stamped rfl rfl rfl fun h => nomatch h
  · exact stamped

theorem committedRoster_movedFrom {w : Work} (h : w.Sound) (u flashTime : Nat) :
    ∀ d ∈ committedRoster u flashTime w.deps, MovedFromInv d := by
  intro d hd
  rw [committedRoster, (sortBy_perm _ _).mem_iff] at hd
  obtain ⟨r, hr, rfl⟩ := List.mem_map.1 hd
  exact settleDep_movedFrom (h r hr) u flashTime w.deps

namespace Work.Sound

variable {w : Work}

theorem of_deps {v : Work} (h : w.Sound) (e : v.deps = w.deps) : v.Sound := by
  unfold Work.Sound; rw [e]; exact h

theorem update (h : w.Sound) {id : Nat} {f : WorkDep → WorkDep} (hf : ∀ r, MovedFromWork r → MovedFromWork (f r)) :
    (w.update id f).Sound := by
  intro r hr
  obtain ⟨q, hq, rfl⟩ := List.mem_map.1 hr
  split
  · exact hf q (h q hq)
  · exact h q hq

theorem sublist {v : Work} (h : w.Sound) (e : v.deps.Sublist w.deps) : v.Sound := fun r hr => h r (e.mem hr)

theorem addDep (h : w.Sound) {r : WorkDep} (hr : MovedFromWork r) : (w.addDep r).Sound := by
  intro q hq
  rcases List.mem_append.1 hq with m | m
  · exact h q m
  · rw [List.mem_singleton.1 m]; exact hr

theorem notes (h : w.Sound) (l : List Note) : (l.foldl Work.note w).Sound := by
  induction l generalizing w with
  | nil => exact h
  | cons n l ih => exact ih (h.of_deps rfl)

end Work.Sound

/-- An amendment that is made makes a sound working copy when what it does does. -/
theorem amend_sound {w v : Work} {id : Nat} {f : WorkDep → Work} (h : amend w id f = .ok v)
    (hf : ∀ r, w.find id = some r → (f r).Sound) : v.Sound := by
  unfold amend at h
  split at h
  · cases h
  · next r hr =>
    split at h
    · cases h
    · cases h; exact hf r hr

/-- Every entry that is applied keeps the working copy sound. -/
theorem applyEntry_sound {s : State} {i : Nat} {e : Entry} {w v : Work} (h : w.Sound)
    (ok : applyEntry s i e w = .ok v) : v.Sound := by
  cases e with
  | add id sched kind quiet given dest platform delay label =>
    simp only [applyEntry, applyAdd] at ok
    split_ifs at ok <;> cases ok <;> exact (h.addDep (movedFromWork_of_nil rfl)).of_deps rfl
  | setCalls id names =>
    simp only [applyEntry, applySetCalls] at ok
    split at ok
    · cases ok
    · refine amend_sound ok fun _ _ => (h.update fun r i => ?_).of_deps rfl
      exact movedFromWork_of_eq i rfl rfl rfl rfl fun h => h
  | setDelay id delay reason =>
    simp only [applyEntry, applySetDelay] at ok
    split at ok
    · cases ok
    · refine amend_sound ok fun _ _ => (h.update fun r i => ?_).of_deps rfl
      exact movedFromWork_of_eq i rfl rfl rfl rfl fun h => h
  | setPlatform id platform =>
    simp only [applyEntry, applySetPlatform] at ok
    split at ok
    · cases ok
    · exact amend_sound ok fun r _ => (h.update fun r i => movePlatform_movedFrom i _).notes _
  | cancel id reason =>
    simp only [applyEntry, applyCancel] at ok
    split at ok
    · cases ok
    · refine amend_sound ok fun r _ => ?_
      split
      · exact h
      · exact (h.update fun r _ => movedFromWork_of_nil rfl).of_deps rfl
  | reinstate id =>
    simp only [applyEntry, applyReinstate] at ok
    split at ok
    · cases ok
    · cases ok
      split
      · refine (h.update fun r i => ?_).of_deps rfl
        exact movedFromWork_of_eq i rfl rfl rfl rfl fun h => nomatch h
      · exact h
  | withdraw id =>
    simp only [applyEntry, applyWithdraw] at ok
    split at ok
    · cases ok
    · cases ok; exact h.sublist List.filter_sublist
  | clearRoster => cases ok; exact fun r hr => nomatch hr
  | postNotice id scope value priority text speak rep dur =>
    simp only [applyEntry, applyPostNotice] at ok
    split at ok
    · cases ok
    · split_ifs at ok <;> cases ok <;> exact h.of_deps rfl
  | endNotice id =>
    simp only [applyEntry, applyEndNotice] at ok
    split_ifs at ok; cases ok; exact h.of_deps rfl
  | closure p close =>
    simp only [applyEntry, applyClosure] at ok
    split_ifs at ok; cases ok; exact h.of_deps rfl
  | restoreContact p =>
    simp only [applyEntry, applyRestore] at ok
    split_ifs at ok <;> cases ok
    · exact h
    · exact h.of_deps rfl
  | setTime day wall =>
    simp only [applyEntry, applySetTime] at ok
    split_ifs at ok; cases ok; exact h.of_deps rfl
  | flushNames idx =>
    simp only [applyEntry, applyFlush] at ok
    split_ifs at ok <;> cases ok <;> exact h.of_deps rfl

theorem applyEntries_sound {s : State} {es : List Entry} {i : Nat} {w v : Work} (h : w.Sound)
    (ok : applyEntries s i es w = .ok v) : v.Sound := by
  induction es generalizing i w with
  | nil => cases ok; exact h
  | cons e es ih =>
    unfold applyEntries at ok
    split at ok
    · next hw => exact ih (applyEntry_sound h hw) ok
    · cases ok

/-- The working copy begins sound. -/
theorem workOf_sound {x : RU} (h : ∀ d ∈ x.roster, MovedFromInv d) : (Work.of x).Sound := by
  intro r hr
  obtain ⟨d, hd, rfl⟩ := List.mem_map.1 hr
  have i := h d hd
  exact ⟨i.short, i.distinct, i.elsewhere, fun _ => i.dark, i.unassigned, i.cancelled⟩

/-- A working copy that is committed has passed the checks: it is sound, and its notices fit the table (R90). -/
theorem judgeSheet_ok {h : SheetHeader} {units : Option (List Byte)} {s : State} {w : Work}
    (ok : judgeSheet h units s = .ok w) :
    ((∀ d ∈ s.ru.roster, MovedFromInv d) → w.Sound) ∧ w.notices.length ≤ 24 := by
  unfold judgeSheet at ok
  split at ok
  · cases ok
  · split at ok
    · cases ok
    · split_ifs at ok
      split at ok
      · cases ok
      · next v hv =>
        split at ok
        · cases ok
        · next checks =>
          cases ok
          refine ⟨fun b => applyEntries_sound (workOf_sound b) hv, ?_⟩
          unfold finalChecks at checks
          split_ifs at checks with h1 h2 h3
          exact Nat.not_lt.1 h3

/-! ### The commit (R91, R92) -/

/-- Placing notices changes their fields, not how many they are. -/
theorem placePosted_length (u : Nat) (ids : List Nat) (seq : Nat) (ns : List Notice) :
    (placePosted u ids seq ns).1.length = ns.length := by
  induction ids generalizing seq ns with
  | nil => rfl
  | cons i is ih =>
    unfold placePosted
    split
    · rw [ih, List.length_map]
    · exact ih _ _

/-- Steps 1 to 6 of the commit keep all when the working copy has passed the checks. -/
theorem commitRU_keeps {w : Work} {s : State} (sound : (∀ d ∈ s.ru.roster, MovedFromInv d) → w.Sound)
    (notices : w.notices.length ≤ 24) : Keeps s (s.onRu (commitRU s.sc.u w)) := by
  refine .onRu (fun b => committedRoster_movedFrom (sound b) _ _) fun b => ⟨?_, ?_⟩
  · show (sortBy noticeBefore (placePosted s.sc.u w.posted s.ru.nextPosting w.notices).1).length ≤ 24
    rw [(sortBy_perm _ _).length_eq, placePosted_length]
    exact notices
  · exact placePosted_range _ _ _ _ b.2

theorem testDelay_keeps (id : Nat) (d : Delay) (s : State) : Keeps s (testDelay id d s) := by
  unfold testDelay
  split
  · exact .refl s
  · split
    · refine .trans (setDep_keeps s fun e i => ?_) (takeRequest_keeps _ _)
      exact movedFromInv_of_eq i rfl rfl rfl fun h => h
    · exact .refl s

theorem makeNote_keeps (s : State) (n : Note) : Keeps s (makeNote s n) := by
  cases n with
  | delay k d => exact testDelay_keeps _ _ s
  | platformChange | cancellation | reinstated => exact takeRequest_keeps _ s
  | removal ids => exact takeRemoval_keeps ids s
  | notice id =>
    unfold makeNote
    dsimp only
    split
    · exact speakNotice_keeps s id
    · exact .refl s
  | restore p => exact restoreContact_keeps p s
  | setTime wall day => exact setTime_keeps wall day s
  | flush named => exact flushNames_keeps named s

/-- A sheet that passes the checks keeps all by its commit, and one that fails changes nothing (R91, R93). -/
theorem applySheet_keeps (h : SheetHeader) (units : Option (List Byte)) (s : State) : Keeps s (applySheet h units s) := by
  unfold applySheet
  split
  · next w ok =>
    obtain ⟨sound, notices⟩ := judgeSheet_ok ok
    have committed : Keeps s (requestFrame (commitNotes w s)) :=
      .trans (.trans (commitRU_keeps sound notices) (.foldl makeNote_keeps _ _)) (requestFrame_keeps _)
    unfold commitSheet
    dsimp only
    split
    · exact committed.trans (setTimeEvents_keeps _)
    · exact committed
  · exact .refl s

/-! ### The port's side of a sheet (R71 to R74, R173, R174) -/

theorem refusePost_keeps (slot : Nat) (why : PostRefusal) (s : State) : Keeps s (refusePost slot why s) :=
  .trans (.onXp_of_eq rfl) (raiseAttn_keeps _ _)

theorem tryTake_keeps (s : State) : Keeps s (tryTake s) := by
  unfold tryTake
  split
  · next slot rest _ hq =>
    split
    · refine .trans (.onXp fun b => ?_) (request_keeps _ _)
      unfold PostsBounded at b ⊢
      rw [hq] at b
      exact ⟨Nat.le_of_succ_le b.1, fun n hn => b.2 n (List.mem_cons_of_mem slot hn)⟩
    · exact .refl s
  · exact .refl s

/-- A post that is taken into the queue names a slot, and finds a place (R173). -/
theorem takePost_keeps (value : Nat) (s : State) : Keeps s (takePost value s) := by
  unfold takePost
  split
  · exact refusePost_keeps _ _ s
  · next fits =>
    refine .trans (.onXp fun b => ?_) (tryTake_keeps _)
    unfold postRefusal at fits
    split_ifs at fits with h1 h2 h3
    simp only [Config.postLimit] at h3
    refine ⟨by simp only [List.length_append, List.length_singleton]; omega, fun n hn => ?_⟩
    rcases List.mem_append.1 hn with m | m
    · exact b.2 n m
    · rw [List.mem_singleton.1 m]; omega

theorem sheetRequest_keeps (j : SheetJob) (r : MemReq) (s : State) : Keeps s (sheetRequest j r s) :=
  .trans (.onXp_of_eq rfl) (request_keeps _ _)

theorem fetchCompleted_keeps (units : Option (List Byte)) (s : State) : Keeps s (fetchCompleted units s) := by
  unfold fetchCompleted
  split
  · exact .refl s
  · exact (applySheet_keeps _ _ s).trans (sheetRequest_keeps _ _ _)

theorem flightEnds_keeps (s : State) : Keeps s (flightEnds s) := .trans (.onXp_of_eq rfl) (tryTake_keeps _)

theorem headerReturned_keeps (bs : List Byte) (s : State) : Keeps s (headerReturned bs s) := by
  unfold headerReturned
  split
  · exact .refl s
  · split
    · exact sheetRequest_keeps _ _ s
    · exact (refusePost_keeps _ _ s).trans (flightEnds_keeps _)

theorem takenWritten_keeps (s : State) : Keeps s (takenWritten s) := by
  unfold takenWritten
  split
  · exact .refl s
  · split
    · exact sheetRequest_keeps _ _ s
    · exact fetchCompleted_keeps _ s

theorem resultWritten_keeps (s : State) : Keeps s (resultWritten s) := by
  unfold resultWritten
  split
  · exact .refl s
  · exact sheetRequest_keeps _ _ s

theorem doneWritten_keeps (s : State) : Keeps s (doneWritten s) := (raiseAttn_keeps _ s).trans (flightEnds_keeps _)

end Sys2Proof.Machine


namespace Sys2Proof.Machine

open Sys2Proof.Safety

/-! ### STOP (R184) -/

theorem enterStage_keeps (g : StopStage) (s : State) : Keeps s (enterStage g s) := .onXp_of_eq rfl

theorem sheetStep_keeps (s : State) : Keeps s (sheetStep s) := by
  unfold sheetStep
  split
  · exact enterStage_keeps _ s
  · exact .refl s

theorem frameStep_keeps (s : State) : Keeps s (frameStep s) := by
  unfold frameStep
  split
  · exact (enterStage_keeps _ s).trans (.onCq_of_eq rfl rfl rfl rfl)
  · exact .refl s

theorem pageStep_keeps (s : State) : Keeps s (pageStep s) := by
  unfold pageStep
  split
  · split
    · exact (enterStage_keeps _ s).trans (handBlanks_keeps _)
    · split
      · exact beginClose_keeps _ s
      · exact .refl s
  · exact .refl s

theorem enterStopped_keeps (s : State) : Keeps s (enterStopped s) := by
  have stopped : Keeps s (enterRun .stopped ((forgetContacts s).onXp fun x => { x with stopStage := none })) :=
    .trans (.trans (forgetContacts_keeps s) (.onXp_of_eq rfl)) (enterRun_keeps _ _)
  unfold enterStopped
  dsimp only
  split
  · exact stopped
  · exact stopped.trans (requestPublication_keeps _)

theorem laneStep_keeps (s : State) : Keeps s (laneStep s) := by
  unfold laneStep
  split
  · exact enterStopped_keeps s
  · exact .refl s

theorem advanceStop_keeps (s : State) : Keeps s (advanceStop s) := by
  unfold advanceStop
  split
  · exact (((sheetStep_keeps s).trans (frameStep_keeps _)).trans (pageStep_keeps _)).trans (laneStep_keeps _)
  · exact .refl s

theorem enterStopping_keeps (s : State) : Keeps s (enterStopping s) := by
  refine .trans (.trans (.trans (.trans (.onXp fun _ => ?_) (enterRun_keeps _ _)) (.onWc_of_eq rfl rfl))
    (onDims_keeps _ _)) (advanceStop_keeps _)
  exact ⟨Nat.zero_le 16, fun n hn => nomatch hn⟩

/-! ### START (R181 to R183) -/

theorem beginStart_keeps (s : State) : Keeps s (beginStart s) := by
  unfold beginStart
  split
  · exact .onXp_of_eq rfl
  · exact (enterRun_keeps _ s).trans (request_keeps _ _)

theorem failStart_keeps (f : StartFault) (s : State) : Keeps s (failStart f s) :=
  .trans (.trans (enterRun_keeps _ s) (.onXp_of_eq rfl)) (requestPublication_keeps _)

/-- Departures that meet the platform count keep what R65 asks (R67, R183 step 3). -/
theorem restartDep_movedFrom {d : Departure} (i : MovedFromInv d) (count u : Nat) :
    MovedFromInv (restartDep count u d) := by
  unfold restartDep
  split
  · exact movedFromInv_of_nil rfl
  · by_cases h : d.movedFrom.filter (fun p => decide (p ≤ count)) = []
    · exact movedFromInv_of_nil h
    · have sub : (d.movedFrom.filter fun p => decide (p ≤ count)).Sublist d.movedFrom := List.filter_sublist
      have flash : (trimMovedFrom count d).flashEnd = d.flashEnd := by simp [trimMovedFrom, h]
      have empty : d.movedFrom = [] → (d.movedFrom.filter fun p => decide (p ≤ count)) = [] := fun e => by rw [e]; rfl
      refine ⟨sub.length_le.trans i.short, i.distinct.sublist sub, fun p hp m => i.elsewhere p hp (sub.mem m),
        fun hf => empty (i.dark (flash ▸ hf)), fun hp => empty (i.unassigned hp), fun hc => empty (i.cancelled hc)⟩

/-- The checks of a layout that passes found no fault. -/
theorem firstFault_eq_none {l : List (Option StartFault)} : firstFault l = none ↔ ∀ f ∈ l, f = none := by
  induction l with
  | nil => simp [firstFault]
  | cons f l ih =>
    cases f with
    | none => simp [firstFault, ih]
    | some f => simp [firstFault]

/-- A check of a range that finds no fault finds no bad place in it. -/
theorem firstBad_eq_none {code n : Nat} {index : Nat → Nat} {bad : Nat → Bool} :
    firstBad code n index bad = none ↔ ∀ i < n, bad i = false := by
  simp [firstBad]

/-- What the panel checks say of a layout that passes: at no place a panel repeats a place, is badly formed, has no lane
line, or is a third clock panel of its lane. -/
theorem checkLayout_panels {rd : LayoutReader} (h : checkLayout rd = none) {i : Nat} (hi : i < panelCountOf rd) :
    repeatedPlace rd i = false ∧ badRows rd i = false ∧ badPanelPlatform rd i = false ∧ noLane rd i = false ∧
      thirdClock rd i = false := by
  have panels : checkPanels rd = none := firstFault_eq_none.1 h _ (by simp)
  have := firstBad_eq_none.1 panels i hi
  simpa only [Bool.or_eq_false_iff, and_assoc] using this

/-- A panel of kind 2 is a clock panel, with seconds when its option says so (R187). -/
theorem newKind_clock {rd : LayoutReader} {i : Nat} {seconds : Bool} :
    newKind rd i = .clock seconds ↔ panelKindOf rd i = 2 ∧ bitAt (rd (panelOff i + 3) 1) 0 = seconds := by
  unfold newKind
  split <;> simp_all

/-- A panel of the layout is a clock panel of a lane. -/
theorem clockOn_newPanel (rd : LayoutReader) (u n i : Nat) :
    clockOn n (newPanel rd u i) = (decide (panelKindOf rd i = 2) && decide (panelLaneOf rd i = n)) := by
  by_cases k : panelKindOf rd i = 2
  · have kind : newKind rd i = .clock (bitAt (rd (panelOff i + 3) 1) 0) := newKind_clock.2 ⟨k, rfl⟩
    simp [clockOn, newPanel, kind, k]
  · have kind : ∀ seconds, (newPanel rd u i).kind ≠ .clock seconds := fun _ h => k (newKind_clock.1 h).1
    unfold clockOn
    split
    · next seconds h => exact absurd h (kind seconds)
    · simp [k]

/-- A layout that passes its checks has at most two clock panels on a lane (R132). -/
theorem newPanels_clocks {rd : LayoutReader} (h : checkLayout rd = none) (u n : Nat) :
    (clockAddrs ((List.range (panelCountOf rd)).map (newPanel rd u)) n).length ≤ 2 := by
  have upTo : ∀ m, m ≤ panelCountOf rd →
      ((List.range m).filter fun j => decide (panelKindOf rd j = 2) && decide (panelLaneOf rd j = n)).length ≤ 2 := by
    intro m
    induction m with
    | zero => exact fun _ => Nat.zero_le 2
    | succ m ih =>
      intro hm
      rw [List.range_succ, List.filter_append, List.length_append]
      by_cases clock : panelKindOf rd m = 2 ∧ panelLaneOf rd m = n
      · have third := (checkLayout_panels h (i := m) (by omega)).2.2.2.2
        simp only [thirdClock, clock.1, clock.2, decide_true, Bool.true_and, decide_eq_false_iff_not, not_le] at third
        have one : ([m].filter fun j => decide (panelKindOf rd j = 2) && decide (panelLaneOf rd j = n)).length ≤ 1 :=
          List.length_filter_le _ [m]
        omega
      · have none : ([m].filter fun j => decide (panelKindOf rd j = 2) && decide (panelLaneOf rd j = n)) = [] := by
          simpa using clock
        rw [none]
        exact ih (by omega)
  have all := upTo _ le_rfl
  rw [clockAddrs, List.length_map, List.filter_map, List.length_map]
  refine le_trans (le_of_eq (congrArg List.length (List.filter_congr fun j _ => ?_))) all
  exact clockOn_newPanel rd u n j

/-- A layout that passes its checks keeps all in being taken. -/
theorem takeLayout_keeps {rd : LayoutReader} (h : checkLayout rd = none) (i : LineInputs) (s : State) :
    Keeps s (takeLayout rd i s) := by
  refine .trans ⟨⟨?_, ?_, ?_, ?_, ?_, ?_, ?_⟩, ?_⟩ (enterRun_keeps _ _)
  · intro b d hd
    obtain ⟨e, he, rfl⟩ := List.mem_map.1 hd
    exact restartDep_movedFrom (b e he) _ _
  · exact fun b => b
  · exact fun b => ⟨(List.length_filter_le _ _).trans b.1, b.2⟩
  · intro _ p hp
    obtain ⟨k, -, rfl⟩ := List.mem_map.1 hp
    unfold newPlatform
    split <;> exact Nat.zero_le 8
  · exact fun _ => Nat.zero_le 96
  · refine fun _ => ⟨fun x hx => ?_, newPanels_clocks h s.sc.u, fun n l hl => ?_⟩
    · obtain ⟨_, -, rfl⟩ := List.mem_map.1 hx
      exact Nat.zero_le 8
    · obtain ⟨_, -, rfl⟩ := List.mem_map.1 (List.mem_of_getElem? hl)
      exact ⟨Nat.zero_le 64, List.nodup_nil, fun r hr => nomatch hr⟩
  · exact fun b => b.of_eq rfl rfl
  · exact fun b => pageInv_of_eq b rfl id

theorem firstWork_keeps (s : State) : Keeps s (firstWork s) :=
  .trans (.trans (.foldl (fun _ _ => startBaseline_keeps _ _) _ s) (clockRecords_keeps _)) (requestFrame_keeps _)

theorem layoutReturned_keeps (rd : LayoutReader) (i : LineInputs) (s : State) : Keeps s (layoutReturned rd i s) := by
  unfold layoutReturned
  split
  · exact failStart_keeps _ s
  · split
    · exact failStart_keeps _ s
    · next passed => exact (takeLayout_keeps passed i s).trans (firstWork_keeps _)

/-! ### The ends of memory requests (R176, R177) -/

theorem complete_keeps {a : Access} {act : MemReq → State → State} (h : ∀ r s, Keeps s (act r s)) (s : State) :
    Keeps s (complete a act s) := by
  unfold complete
  split
  · split
    · exact ((h _ s).trans (advanceStop_keeps _)).trans (releaseLink_keeps _)
    · exact .refl s
  · exact .refl s

theorem onData_keeps {a : Access} {act : List Byte → State → State} (h : ∀ bs s, Keeps s (act bs s)) (s : State) :
    Keeps s (complete a (onData act) s) :=
  complete_keeps (fun _ _ => h _ _) s

theorem onLanded_keeps {a : Access} {act : State → State} (h : ∀ s, Keeps s (act s)) (s : State) :
    Keeps s (complete a (onLanded act) s) :=
  complete_keeps (fun r s => (landWrite_keeps r s).trans (h _)) s

theorem nameAnswered_keeps (r : Option NameText) (s : State) : Keeps s (nameAnswered r s) :=
  (((nameReturned_keeps r s).trans (progressNames_keeps _)).trans (progressFrame_keeps _)).trans (progressWrite_keeps _)

theorem accessFailed_keeps (a : Access) (s : State) : Keeps s (accessFailed a s) := by
  cases a with
  | layoutRead => exact failStart_keeps _ s
  | headerRead | takenWrite | unitRead => exact fetchCompleted_keeps none s
  | resultWrite | doneWrite => exact flightEnds_keeps s
  | nameRead => exact nameAnswered_keeps none s
  | stateWordRead => exact setRetry_keeps s
  | openWrite | recordWrite | pageHeaderWrite | closedWrite => exact pageWriteFault_keeps s
  | tallyHalfRead | tallyWordRead | tallyHalfWrite | tallyWordWrite => exact tallyFailed_keeps s
  | publishCountWrite | publishContentWrite => exact publicationFailed_keeps s

theorem requestFailed_keeps (f : InFlight) (s : State) : Keeps s (requestFailed f s) := by
  have landed : Keeps s (if f.req.access.mayLand then landFaulted f.req s else s) := by
    split
    · exact landFaulted_keeps _ s
    · exact .refl s
  unfold requestFailed
  dsimp only
  exact (((landed.trans (recordFault_keeps _ _)).trans (accessFailed_keeps _ _)).trans (advanceStop_keeps _)).trans
    (releaseLink_keeps _)

theorem linkFault_keeps (s : State) : Keeps s (linkFault s) := by
  unfold linkFault
  split
  · exact requestFailed_keeps _ s
  · exact .refl s

/-! ### Commands and steps -/

/-- A reset leaves every list and queue empty (R185). -/
theorem resetPart_keeps (s : State) : Keeps s (resetPart s) where
  moved _ d hd := nomatch hd
  posts _ := ⟨Nat.zero_le 16, fun n hn => nomatch hn⟩
  notices _ := ⟨Nat.zero_le 24, Nat.le_refl 1, Nat.one_lt_two_pow (by decide)⟩
  histories _ p hp := by rw [List.eq_of_mem_replicate hp]; exact Nat.zero_le 8
  cache _ := Nat.zero_le 96
  lines _ := by
    refine ⟨fun h hh => ?_, fun n => Nat.zero_le 2, fun n l hl => ?_⟩
    · rw [List.eq_of_mem_replicate hh]; exact Nat.zero_le 8
    · rw [List.eq_of_mem_replicate (List.mem_of_getElem? hl)]
      exact ⟨Nat.zero_le 64, List.nodup_nil, fun r hr => nomatch hr⟩
  cues _ := ⟨Nat.zero_le 32, .nil, Nat.zero_le 32⟩
  page _ := pageInv_of_none rfl

theorem Keeps.ite {b : Prop} [Decidable b] {s t : State} (h : Keeps s t) : Keeps s (if b then t else s) := by
  split
  · exact h
  · exact .refl s

/-- Every command keeps the moved-from lists, the bounds and the page's bound. -/
theorem exec_keeps {c : Instr} {s t : State} (h : exec c s = .next t) : Keeps s t := by
  cases c with
  | hostMemoryWrite a bs =>
    simp only [exec, execHostMemoryWrite] at h
    split_ifs at h
    obtain rfl := Host.Outcome.next.inj h
    exact .onMem _
  | stop =>
    obtain rfl := Host.Outcome.next.inj h
    split
    · exact enterStopping_keeps s
    · exact .onXp_of_eq rfl
    all_goals exact .refl s
  | cueRequest r =>
    obtain rfl := Host.Outcome.next.inj h
    split
    · exact clockReport_keeps _ _ s
    · exact takeRequest_keeps _ s
  | pendingChangeExpiry p =>
    obtain rfl := Host.Outcome.next.inj h
    split
    · exact pendingExpired_keeps p _ s
    · exact .refl s
  | reset | powerOnReset => obtain rfl := Host.Outcome.next.inj h; exact resetPart_keeps s
  | attnWrite | attnenWrite => obtain rfl := Host.Outcome.next.inj h; exact .onXp_of_eq rfl
  | registerWriteIgnored | presentEdge => obtain rfl := Host.Outcome.next.inj h; exact .refl s
  | start => obtain rfl := Host.Outcome.next.inj h; exact (beginStart_keeps s).ite
  | post v => obtain rfl := Host.Outcome.next.inj h; exact takePost_keeps _ s
  | xbaseWrite => obtain rfl := Host.Outcome.next.inj h; exact (Keeps.onXp_of_eq rfl).ite
  | headerReadComplete => obtain rfl := Host.Outcome.next.inj h; exact onData_keeps headerReturned_keeps s
  | takenWriteComplete => obtain rfl := Host.Outcome.next.inj h; exact onLanded_keeps takenWritten_keeps s
  | fetchCompletion => obtain rfl := Host.Outcome.next.inj h; exact onData_keeps (fun _ => fetchCompleted_keeps _) s
  | resultWriteComplete => obtain rfl := Host.Outcome.next.inj h; exact onLanded_keeps resultWritten_keeps s
  | doneWriteComplete => obtain rfl := Host.Outcome.next.inj h; exact onLanded_keeps doneWritten_keeps s
  | layoutReadComplete i => obtain rfl := Host.Outcome.next.inj h; exact complete_keeps (fun _ t => layoutReturned_keeps _ i t) s
  | runningTick => obtain rfl := Host.Outcome.next.inj h; exact ((evaluate_keeps s).trans (rampDims_keeps _)).ite
  | flashEnd => obtain rfl := Host.Outcome.next.inj h; exact (endFlashes_keeps s).ite
  | noticeExpiry => obtain rfl := Host.Outcome.next.inj h; exact (expireNotices_keeps s).ite
  | noticeRepeat => obtain rfl := Host.Outcome.next.inj h; exact (repeatNotices_keeps s).ite
  | slewPoint => obtain rfl := Host.Outcome.next.inj h; exact (slewPoint_keeps s).ite
  | stationSecond => obtain rfl := Host.Outcome.next.inj h; exact (takeStationSecond_keeps s).ite
  | stationMinute => obtain rfl := Host.Outcome.next.inj h; exact (takeStationMinute_keeps s).ite
  | dayRollover => obtain rfl := Host.Outcome.next.inj h; exact (advance_keeps 1 s).ite
  | holdoverTimeout => obtain rfl := Host.Outcome.next.inj h; exact (enterHoldover_keeps s).ite
  | mark level => obtain rfl := Host.Outcome.next.inj h; exact markSample_keeps level s
  | contactLevelChange line input => obtain rfl := Host.Outcome.next.inj h; exact contactSample_keeps line _ _ s
  | absentEdge p => obtain rfl := Host.Outcome.next.inj h; exact absentEdge_keeps p s
  | sensorSample => obtain rfl := Host.Outcome.next.inj h; exact (sampleSensors_keeps _ s).ite
  | framePeriod => obtain rfl := Host.Outcome.next.inj h; exact (requestFrame_keeps s).ite
  | frameRequest => obtain rfl := Host.Outcome.next.inj h; exact requestFrame_keeps s
  | nameReadComplete => obtain rfl := Host.Outcome.next.inj h; exact onData_keeps (fun _ => nameAnswered_keeps _) s
  | laneTransmissionComplete n => obtain rfl := Host.Outcome.next.inj h; exact ((transmissionDone_keeps n s).trans (progressFrame_keeps _)).trans (advanceStop_keeps _)
  | removalRequest ids => obtain rfl := Host.Outcome.next.inj h; exact takeRemoval_keeps ids s
  | stateWordReadComplete => obtain rfl := Host.Outcome.next.inj h; exact onData_keeps (fun _ => stateWordReturned_keeps _) s
  | pageRetry => obtain rfl := Host.Outcome.next.inj h; exact retryReached_keeps s
  | cueRecordWriteComplete => obtain rfl := Host.Outcome.next.inj h; exact onLanded_keeps recordWritten_keeps s
  | holdExpiry => obtain rfl := Host.Outcome.next.inj h; exact holdExpired_keeps s
  | pageHeaderWriteComplete => obtain rfl := Host.Outcome.next.inj h; exact onLanded_keeps pageHeaderWritten_keeps s
  | closedWriteComplete => obtain rfl := Host.Outcome.next.inj h; exact onLanded_keeps pageClosed_keeps s
  | strobePulseEnd n => obtain rfl := Host.Outcome.next.inj h; exact setLine_keeps n _ s
  | tallyHalfwordReadComplete => obtain rfl := Host.Outcome.next.inj h; exact onData_keeps (fun _ => tallyHalfRead_keeps _) s
  | tallyWordReadComplete => obtain rfl := Host.Outcome.next.inj h; exact onData_keeps (fun _ => tallyWordRead_keeps _) s
  | tallyHalfwordWriteComplete => obtain rfl := Host.Outcome.next.inj h; exact onLanded_keeps tallyHalfWritten_keeps s
  | tallyWordWriteComplete => obtain rfl := Host.Outcome.next.inj h; exact onLanded_keeps tallyWordWritten_keeps s
  | publishCountWriteComplete => obtain rfl := Host.Outcome.next.inj h; exact onLanded_keeps publishCountWritten_keeps s
  | publishContentWriteComplete => obtain rfl := Host.Outcome.next.inj h; exact onLanded_keeps publishContentWritten_keeps s
  | memoryFault => obtain rfl := Host.Outcome.next.inj h; exact linkFault_keeps s
  | memoryRequestTimeout => obtain rfl := Host.Outcome.next.inj h; exact (linkFault_keeps s).ite
  | openWriteComplete => obtain rfl := Host.Outcome.next.inj h; exact onLanded_keeps openWritten_keeps s
  | dimPeriodStart => obtain rfl := Host.Outcome.next.inj h; exact onDims_keeps _ s

/-- A millisecond of running time moves the Station Clock alone (log 2). -/
theorem tick_keeps (s : State) : Keeps s (tick s) := by
  refine .of_blocks ?_ ?_ ?_ ?_ ?_ ?_ <;> (unfold tick; dsimp only; split <;> rfl)

/-- Every step keeps the moved-from lists, the bounds and the page's bound. -/
theorem step_keeps {s t : State} (h : step s = .next t) : Keeps s t := by
  cases hp : s.pending with
  | nil =>
    obtain rfl : tick s = t := by simpa [step, hp] using h
    exact tick_keeps s
  | cons c rest =>
    have run : exec c { s with pending := rest } = .next t := by simpa [step, hp] using h
    have queue : Keeps s { s with pending := rest } := .of_blocks rfl rfl rfl rfl rfl rfl
    exact queue.trans (exec_keeps run)

/-- Settles O58: no operation spoils a moved-from list. -/
theorem movedFromListsStayShort : Obligations.MovedFromListsStayShort :=
  fun _ _ inv h => (step_keeps h).moved inv

/-- Settles O59: no operation passes a bound. -/
theorem queuesStayBounded : Obligations.QueuesStayBounded :=
  fun _ _ h => ⟨(step_keeps h).queueInv, (step_keeps h).page⟩

end Sys2Proof.Machine


/-! SUPPORT. What a lane has been given stays with it until it is sent: the line records of panels and the pending clock
records, through every operation of the lanes (R126 to R129). -/

namespace Sys2Proof.Machine

open Sys2Proof.Safety

/-- A property that each step of a fold keeps holds after the fold. -/
theorem foldl_keeps {σ α : Type} {f : σ → α → σ} {P : σ → Prop} {l : List α} (keep : ∀ s, ∀ a ∈ l, P s → P (f s a))
    {s : σ} (h : P s) : P (l.foldl f s) := by
  induction l generalizing s with
  | nil => exact h
  | cons a l ih =>
    exact ih (fun s b hb => keep s b (List.mem_cons_of_mem a hb)) (keep s a List.mem_cons_self h)

/-- A property that one step of a fold brings about, where an invariant of the fold holds, and that the others keep, holds
after the fold. -/
theorem foldl_brings {σ α : Type} {f : σ → α → σ} {I P : σ → Prop} {l : List α} {a : α} (mem : a ∈ l)
    (inv : ∀ s, ∀ b ∈ l, I s → I (f s b)) (here : ∀ s, I s → P (f s a)) (keep : ∀ s, ∀ b ∈ l, P s → P (f s b))
    {s : σ} (start : I s) : P (l.foldl f s) := by
  obtain ⟨l₁, l₂, rfl⟩ := List.append_of_mem mem
  rw [List.foldl_append, List.foldl_cons]
  exact foldl_keeps (fun t b hb => keep t b (by simp [hb]))
    (here _ (foldl_keeps (fun t b hb => inv t b (by simp [hb])) start))

/-! ### The lanes that are there -/

@[simp] theorem onLane_lanes_length (n : Nat) (f : Lane → Lane) (s : State) :
    (onLane n f s).fu.lanes.length = s.fu.lanes.length := by
  simp [onLane]

@[simp] theorem acceptRecord_lanes_length (n : Nat) (r : LineRec) (s : State) :
    (acceptRecord n r s).fu.lanes.length = s.fu.lanes.length :=
  onLane_lanes_length n _ s

@[simp] theorem transmitNext_lanes_length (n : Nat) (s : State) :
    (transmitNext n s).fu.lanes.length = s.fu.lanes.length := by
  obtain h | ⟨l, -, -, ⟨c, cs, -, h⟩ | ⟨r, rs, -, -, -, h⟩ | ⟨r, rs, w, ws, -, -, -, h⟩⟩ := transmitNext_cases n s <;>
    simp [h]

@[simp] theorem handRecord_lanes_length (n : Nat) (r : LineRec) (s : State) :
    (handRecord n r s).fu.lanes.length = s.fu.lanes.length := by
  obtain ⟨-, h⟩ | ⟨l, -, ⟨-, -, h⟩ | h⟩ := handRecord_cases n r s <;> simp [h]

@[simp] theorem handClock_lanes_length (n : Nat) (c : ClockRec) (s : State) :
    (handClock n c s).fu.lanes.length = s.fu.lanes.length := by
  simp [handClock]

@[simp] theorem handPanel_lanes_length (text : Bool → List Byte) (holdover : Bool) (s : State) (p : Panel) :
    (handPanel text holdover s p).fu.lanes.length = s.fu.lanes.length := by
  unfold handPanel
  split <;> simp

@[simp] theorem handClocks_lanes_length (text : Bool → List Byte) (holdover : Bool) (s : State) :
    (handClocks text holdover s).fu.lanes.length = s.fu.lanes.length := by
  rw [handClocks_eq]
  exact foldl_view (fun t : State => t.fu.lanes.length) _ (handPanel_lanes_length text holdover) _ _

/-! ### Line records -/

/-- A line record of a lane stays with it when another is handed. -/
theorem mem_laneLines_handRecord {r : LineRec} {k : Nat} {s : State} (n : Nat) (q : LineRec) (h : r ∈ laneLines s k) :
    r ∈ laneLines (handRecord n q s) k := by
  by_cases hn : n < s.fu.lanes.length
  · rw [handRecord_laneLines hn]
    exact List.mem_append_left _ h
  · have same : handRecord n q s = s := by simp [handRecord, List.getElem?_eq_none (Nat.le_of_not_lt hn)]
    rwa [same]

/-- A line record that is handed is with its lane. -/
theorem mem_laneLines_handRecord_self {r : LineRec} {n : Nat} {s : State} (hn : n < s.fu.lanes.length) :
    r ∈ laneLines (handRecord n r s) n := by
  rw [handRecord_laneLines hn]
  simp

@[simp] theorem handClock_laneLines (n : Nat) (c : ClockRec) (s : State) (k : Nat) :
    laneLines (handClock n c s) k = laneLines s k := by
  unfold handClock
  rw [transmitNext_laneLines]
  by_cases h : n = k
  · subst h
    cases hl : s.fu.lanes[n]? with
    | none => simp [laneLines, onLane, hl]
    | some l => rw [laneLines_of hl, laneLines_of (onLane_lane _ hl)]; rfl
  · exact laneLines_onLane_ne h _ s

@[simp] theorem handPanel_laneLines (text : Bool → List Byte) (holdover : Bool) (s : State) (p : Panel) (k : Nat) :
    laneLines (handPanel text holdover s p) k = laneLines s k := by
  unfold handPanel
  split <;> simp

@[simp] theorem handClocks_laneLines (text : Bool → List Byte) (holdover : Bool) (s : State) (k : Nat) :
    laneLines (handClocks text holdover s) k = laneLines s k := by
  rw [handClocks_eq]
  exact foldl_view (fun t => laneLines t k) _ (fun t p => handPanel_laneLines text holdover t p k) _ _

/-! ### Clock records -/

/-- A clock record is pending on a lane or being sent. -/
def Lane.HasClock (c : ClockRec) (l : Lane) : Prop := c ∈ l.clockQueue ∨ l.sending = some (.clock c)

/-- A clock record is with lane `n`, pending or being sent. -/
def ClockHeld (n : Nat) (c : ClockRec) (s : State) : Prop := ∃ l, s.fu.lanes[n]? = some l ∧ l.HasClock c

theorem ClockHeld.of_lanes {n : Nat} {c : ClockRec} {s t : State} (h : ClockHeld n c s)
    (lanes : t.fu.lanes = s.fu.lanes) : ClockHeld n c t := by
  rwa [ClockHeld, lanes]

theorem ClockHeld.onLane {n k : Nat} {c : ClockRec} {s : State} {f : Lane → Lane} (h : ClockHeld n c s)
    (keep : k = n → ∀ l, s.fu.lanes[n]? = some l → l.HasClock c → (f l).HasClock c) : ClockHeld n c (onLane k f s) := by
  obtain ⟨l, hl, has⟩ := h
  by_cases e : k = n
  · subst e
    exact ⟨f l, onLane_lane f hl, keep rfl l hl has⟩
  · exact ⟨l, by simp [Machine.onLane, e, hl], has⟩

theorem ClockHeld.acceptRecord {n k : Nat} {c : ClockRec} {s : State} (h : ClockHeld n c s) (r : LineRec) :
    ClockHeld n c (acceptRecord k r s) :=
  (h.onLane (f := fun l => { l with frameQueue := l.frameQueue ++ [r] }) fun _ _ _ has => has).of_lanes rfl

/-- The transmitter's choice loses no clock record: the one that leaves the queue is being sent (R129). -/
theorem ClockHeld.transmitNext {n : Nat} {c : ClockRec} {s : State} (h : ClockHeld n c s) (k : Nat) :
    ClockHeld n c (transmitNext k s) := by
  obtain e | ⟨l, hl, idle, ⟨d, cs, hc, e⟩ | ⟨r, rs, hc, -, -, e⟩ | ⟨r, rs, w, ws, hc, -, -, e⟩⟩ := transmitNext_cases k s <;>
    rw [e]
  · exact h
  · refine h.onLane fun same l' hl' has => ?_
    subst same
    obtain rfl := Option.some.inj (hl.symm.trans hl')
    simp only [Lane.HasClock, hc, idle, List.mem_cons, reduceCtorEq, or_false] at has
    exact has.elim (fun e => .inr (by rw [e])) .inl
  · refine h.onLane fun same l' hl' has => ?_
    subst same
    obtain rfl := Option.some.inj (hl.symm.trans hl')
    simp [Lane.HasClock, hc, idle] at has
  · refine ClockHeld.acceptRecord (h.onLane fun same l' hl' has => ?_) w
    subst same
    obtain rfl := Option.some.inj (hl.symm.trans hl')
    simp [Lane.HasClock, hc, idle] at has

theorem ClockHeld.handRecord {n : Nat} {c : ClockRec} {s : State} (h : ClockHeld n c s) (k : Nat) (r : LineRec) :
    ClockHeld n c (handRecord k r s) := by
  obtain ⟨-, e⟩ | ⟨l, -, ⟨-, -, e⟩ | e⟩ := handRecord_cases k r s <;> rw [e]
  · exact h
  · exact (h.acceptRecord r).transmitNext k
  · exact h.onLane fun _ _ _ has => has

/-- A record that is put in a clock queue is there. -/
theorem mem_putClockRec_self (c : ClockRec) (q : List ClockRec) : c ∈ putClockRec c q := by
  unfold putClockRec
  split
  · next h =>
    obtain ⟨d, hd, same⟩ := List.any_eq_true.1 h
    exact List.mem_map.2 ⟨d, hd, by simp [of_decide_eq_true same]⟩
  · simp

/-- A pending record stays when one for another panel, or an equal one, is put in the queue (R128). -/
theorem mem_putClockRec {c d : ClockRec} {q : List ClockRec} (h : c ∈ q) (other : c.addr = d.addr → c = d) :
    c ∈ putClockRec d q := by
  unfold putClockRec
  split
  · refine List.mem_map.2 ⟨c, h, ?_⟩
    split
    · next e => exact (other e).symm
    · rfl
  · exact List.mem_append_left _ h

/-- A clock record that is handed is with its lane. -/
theorem handClock_held {n : Nat} {c : ClockRec} {s : State} (hn : n < s.fu.lanes.length) :
    ClockHeld n c (handClock n c s) := by
  have hl : s.fu.lanes[n]? = some s.fu.lanes[n] := List.getElem?_eq_getElem hn
  exact ClockHeld.transmitNext ⟨_, onLane_lane _ hl, .inl (mem_putClockRec_self c _)⟩ n

/-- A clock record stays with its lane when one for another panel, or an equal one, is handed. -/
theorem ClockHeld.handClock {n k : Nat} {c d : ClockRec} {s : State} (h : ClockHeld n c s)
    (other : k = n → c.addr = d.addr → c = d) : ClockHeld n c (handClock k d s) :=
  (h.onLane (f := fun l => { l with clockQueue := putClockRec d l.clockQueue })
    fun same _ _ has => has.imp_left fun m => mem_putClockRec m (other same)).transmitNext k

/-- Each clock panel's record is with its lane after all are handed, where panels of one address on one lane are handed
the same text. -/
theorem handClocks_held {text : Bool → List Byte} {holdover : Bool} {s : State} {p : Panel} {seconds : Bool}
    (mem : p ∈ s.wc.panels) (kind : p.kind = .clock seconds) (hn : p.lane < s.fu.lanes.length)
    (same : ∀ q ∈ s.wc.panels, ∀ b, q.kind = .clock b → q.lane = p.lane → q.addr = p.addr → text b = text seconds) :
    ClockHeld p.lane ⟨p.addr, text seconds, holdover⟩ (handClocks text holdover s) := by
  rw [handClocks_eq]
  refine foldl_brings (I := fun t => p.lane < t.fu.lanes.length) mem (fun t q _ h => by simpa using h)
    (fun t h => ?_) (fun t q hq h => ?_) hn
  · rw [handPanel_clock _ _ _ kind]
    exact handClock_held h
  · by_cases e : ∃ b, q.kind = .clock b
    · obtain ⟨b, e⟩ := e
      rw [handPanel_clock _ _ _ e]
      refine h.handClock fun lane addr => ?_
      rw [same q hq b e lane addr.symm, show p.addr = q.addr from addr]
    · rw [handPanel_other _ _ _ fun b k => e ⟨b, k⟩]
      exact h

end Sys2Proof.Machine


/-! PROOF of the STOPPING sequence: what each step waits for, does and leads to (R184). -/

namespace Sys2Proof.Machine

open Sys2Proof.Safety

/-! ### The steps, one at a time (R184) -/

theorem sheetStep_of_ne {s : State} (h : s.xp.stopStage ≠ some .sheet) : sheetStep s = s := by
  simp [sheetStep, h]

theorem frameStep_of_ne {s : State} (h : s.xp.stopStage ≠ some .frame) : frameStep s = s := by
  simp [frameStep, h]

theorem pageStep_of_ne {s : State} (h : s.xp.stopStage ≠ some .page) : pageStep s = s := by
  simp [pageStep, h]

theorem laneStep_of_ne {s : State} (h : s.xp.stopStage ≠ some .lane) : laneStep s = s := by
  simp [laneStep, h]

/-- At the sheet step the sequence is as far as that step ends. -/
theorem advanceStop_at_sheet {s : State} (run : s.xp.run = .stopping) (stage : s.xp.stopStage = some .sheet) :
    (s.xp.sheet ≠ none → advanceStop s = s) ∧
    (s.xp.sheet = none → advanceStop s = advanceStop (enterStage .frame s)) := by
  refine ⟨fun busy => ?_, fun ended => ?_⟩
  · have wait : sheetStep s = s := by simp [sheetStep, busy]
    rw [advanceStop, if_pos run, wait, frameStep_of_ne (by simp [stage]), pageStep_of_ne (by simp [stage]),
      laneStep_of_ne (by simp [stage])]
  · have go : sheetStep s = enterStage .frame s := by simp [sheetStep, stage, ended]
    rw [advanceStop, if_pos run, go, advanceStop, if_pos (by exact run),
      sheetStep_of_ne (by simp [enterStage, State.onXp])]

theorem dropRetry_eq (a : Option OpenAttempt) : dropRetry a = if a = some .reading then some .reading else none := by
  unfold dropRetry
  split
  · next e => exact e
  · rfl

/-- What the end of the frame step leads to: the page step, with a retry time abandoned (R165). -/
def pageStage (s : State) : State := (enterStage .page s).onCq fun x => { x with attempt := dropRetry x.attempt }

theorem advanceStop_at_frame {s : State} (run : s.xp.run = .stopping) (stage : s.xp.stopStage = some .frame) :
    (s.wc.frame ≠ none → advanceStop s = s) ∧
    (s.wc.frame = none → advanceStop s = advanceStop (pageStage s)) := by
  have first : sheetStep s = s := sheetStep_of_ne (by simp [stage])
  refine ⟨fun busy => ?_, fun ended => ?_⟩
  · have wait : frameStep s = s := by simp [frameStep, busy]
    rw [advanceStop, if_pos run, first, wait, pageStep_of_ne (by simp [stage]), laneStep_of_ne (by simp [stage])]
  · have go : frameStep s = pageStage s := by simp [frameStep, stage, ended, pageStage]
    have at_page : (pageStage s).xp.stopStage = some .page := rfl
    rw [advanceStop, if_pos run, first, go, advanceStop, if_pos (by exact run), sheetStep_of_ne (by simp [at_page]),
      frameStep_of_ne (by simp [at_page])]

/-- At the page step the sequence is what the page step makes of it, and the lane step after it. -/
theorem advanceStop_at_page {s : State} (run : s.xp.run = .stopping) (stage : s.xp.stopStage = some .page) :
    advanceStop s = laneStep (pageStep s) := by
  rw [advanceStop, if_pos run, sheetStep_of_ne (by simp [stage]), frameStep_of_ne (by simp [stage])]

/-- At the lane step only the lane step is left. -/
theorem advanceStop_at_lane {s : State} (run : s.xp.run = .stopping) (stage : s.xp.stopStage = some .lane) :
    advanceStop s = laneStep s := by
  rw [advanceStop, if_pos run, sheetStep_of_ne (by simp [stage]), frameStep_of_ne (by simp [stage]),
    pageStep_of_ne (by simp [stage])]

/-! ### The page step (R165) -/

/-- A page step that does nothing waits. -/
theorem advanceStop_at_page_waits {s : State} (run : s.xp.run = .stopping) (stage : s.xp.stopStage = some .page)
    (wait : pageStep s = s) : advanceStop s = s := by
  rw [advanceStop_at_page run stage, wait, laneStep_of_ne (by simp [stage])]

/-- The page step waits for a state-word read and for a cue write. -/
theorem pageStep_waits {s : State} (busy : s.cq.attempt ≠ none ∨ s.cq.writing ≠ none) : pageStep s = s := by
  unfold pageStep
  rw [if_neg fun h => busy.elim (· h.2.1) (· h.2.2)]

/-- With nothing to wait for, the page step looks at the open page. -/
theorem pageStep_of_page {s : State} {p : OpenPage} (stage : s.xp.stopStage = some .page) (attempt : s.cq.attempt = none)
    (writing : s.cq.writing = none) (page : s.cq.openPage = some p) :
    pageStep s = if p.phase = .filling then beginClose { p.causes with stop := true } s else s := by
  simp [pageStep, stage, attempt, writing, page]

theorem pageStep_of_no_page {s : State} (stage : s.xp.stopStage = some .page) (attempt : s.cq.attempt = none)
    (writing : s.cq.writing = none) (page : s.cq.openPage = none) : pageStep s = handBlanks (enterStage .lane s) := by
  simp [pageStep, stage, attempt, writing, page]

theorem leBytes_length (n k : Nat) : (leBytes n k).length = n := by
  induction n generalizing k with
  | zero => rfl
  | succ n ih => simp [leBytes, ih]

/-- A close that begins for STOP: the page closes with that cause among its own, its counts go into the header, and the
header's write is requested (R163, R165). -/
theorem beginClose_spec {c : CloseCauses} {s : State} {p : OpenPage} (page : s.cq.openPage = some p) :
    ∃ q, (beginClose c s).cq.openPage = some q ∧ q.causes = c ∧ q.phase = .closing s.cq.dropped s.cq.superseded ∧
      q.count = p.count ∧ (beginClose c s).cq.dropped = 0 ∧ (beginClose c s).cq.superseded = 0 ∧
      (beginClose c s).xp.stopStage = s.xp.stopStage ∧
      requested ⟨.pageHeaderWrite, linkAddr (s.xp.xbase.toNat * 65536 + 0x6000 + 4096 * p.page + 4), 60,
        headerBytes q s.cq.dropped s.cq.superseded⟩ (beginClose c s) := by
  have length : ∀ (q : OpenPage) (d u : Nat), (headerBytes q d u).length = 60 := fun q d u => by
    simp [headerBytes, leBytes_length]
  refine ⟨{ p with causes := c, phase := .closing s.cq.dropped s.cq.superseded }, ?_, rfl, rfl, rfl, ?_, ?_, ?_, ?_⟩ <;>
    simp only [beginClose, page]
  · simp
  · simp
  · simp
  · simp
  · rw [← length]; exact requested_request _ _

/-! ### The blank rows and clock records (R126) -/

/-- The blank rows of one panel are handed. -/
def handBlankRows (s : State) (ip : Nat × Panel) : State :=
  (List.range ip.2.kind.rows).foldl (fun acc j => handRecord ip.2.lane ⟨ip.1, ip.2.addr, j + 1, blankRow⟩ acc) s

theorem handBlanks_eq (s : State) :
    handBlanks s = handClocks (fun _ => []) false ((placedPanels s.wc.panels).foldl handBlankRows s) := rfl

theorem mem_placedPanels {ps : List Panel} {i : Nat} {p : Panel} (h : ps[i]? = some p) : (i, p) ∈ placedPanels ps :=
  List.mem_map.2 ⟨(p, i), by simpa [List.mem_zipIdx_iff_getElem?] using h, rfl⟩

@[simp] theorem handBlankRows_lanes_length (s : State) (ip : Nat × Panel) :
    (handBlankRows s ip).fu.lanes.length = s.fu.lanes.length :=
  foldl_view (fun t : State => t.fu.lanes.length) _ (fun _ _ => handRecord_lanes_length _ _ _) _ _

@[simp] theorem handBlankRows_places (s : State) (ip : Nat × Panel) :
    (handBlankRows s ip).wc.panels.map Panel.place = s.wc.panels.map Panel.place :=
  foldl_view (fun t : State => t.wc.panels.map Panel.place) _ (fun _ _ => handRecord_places _ _ _) _ _

theorem foldl_handBlankRows_lanes_length (l : List (Nat × Panel)) (s : State) :
    (l.foldl handBlankRows s).fu.lanes.length = s.fu.lanes.length :=
  foldl_view (fun t : State => t.fu.lanes.length) _ handBlankRows_lanes_length _ _

theorem foldl_handBlankRows_places (l : List (Nat × Panel)) (s : State) :
    (l.foldl handBlankRows s).wc.panels.map Panel.place = s.wc.panels.map Panel.place :=
  foldl_view (fun t : State => t.wc.panels.map Panel.place) _ handBlankRows_places _ _

@[simp] theorem handBlanks_lanes_length (s : State) : (handBlanks s).fu.lanes.length = s.fu.lanes.length := by
  rw [handBlanks_eq, handClocks_lanes_length, foldl_handBlankRows_lanes_length]

/-- A line record of a lane stays with it while a panel's blank rows are handed. -/
theorem mem_laneLines_handBlankRows {r : LineRec} {k : Nat} {s : State} (ip : Nat × Panel) (h : r ∈ laneLines s k) :
    r ∈ laneLines (handBlankRows s ip) k :=
  foldl_keeps (P := fun t => r ∈ laneLines t k) (fun _ _ _ h => mem_laneLines_handRecord _ _ h) h

/-- Each blank row of a panel is with its lane once the panel's rows are handed. -/
theorem handBlankRows_row {s : State} {i k : Nat} {p : Panel} (hn : p.lane < s.fu.lanes.length) (hk : k < p.kind.rows) :
    (⟨i, p.addr, k + 1, blankRow⟩ : LineRec) ∈ laneLines (handBlankRows s (i, p)) p.lane :=
  foldl_brings (I := fun t : State => p.lane < t.fu.lanes.length)
    (P := fun t => (⟨i, p.addr, k + 1, blankRow⟩ : LineRec) ∈ laneLines t p.lane) (List.mem_range.2 hk)
    (fun t j _ h => by simpa using h) (fun _ h => mem_laneLines_handRecord_self h)
    (fun _ _ _ h => mem_laneLines_handRecord _ _ h) hn

/-- Once all are handed, each panel's blank rows are with its lane (R126). -/
theorem handBlanks_rows {s : State} {i k : Nat} {p : Panel} (hp : s.wc.panels[i]? = some p)
    (hn : p.lane < s.fu.lanes.length) (hk : k < p.kind.rows) :
    (⟨i, p.addr, k + 1, blankRow⟩ : LineRec) ∈ laneLines (handBlanks s) p.lane := by
  rw [handBlanks_eq, handClocks_laneLines]
  exact foldl_brings (I := fun t : State => p.lane < t.fu.lanes.length)
    (P := fun t => (⟨i, p.addr, k + 1, blankRow⟩ : LineRec) ∈ laneLines t p.lane) (mem_placedPanels hp)
    (fun t ip _ h => by simpa using h) (fun _ h => handBlankRows_row h hk)
    (fun _ _ _ h => mem_laneLines_handBlankRows _ h) hn

/-- Once all are handed, each clock panel's blank clock record is with its lane (R126). -/
theorem handBlanks_clock {s : State} {i : Nat} {p : Panel} {seconds : Bool} (hp : s.wc.panels[i]? = some p)
    (hn : p.lane < s.fu.lanes.length) (kind : p.kind = .clock seconds) :
    ClockHeld p.lane ⟨p.addr, [], false⟩ (handBlanks s) := by
  rw [handBlanks_eq]
  obtain ⟨q, hq, same⟩ : ∃ q ∈ ((placedPanels s.wc.panels).foldl handBlankRows s).wc.panels, q.place = p.place := by
    rw [← List.mem_map, foldl_handBlankRows_places]
    exact List.mem_map_of_mem (List.mem_of_getElem? hp)
  obtain ⟨k, l, a⟩ : q.kind = p.kind ∧ q.lane = p.lane ∧ q.addr = p.addr := by simpa [Panel.place] using same
  rw [← l, ← a]
  exact handClocks_held (text := fun _ => []) hq (k.trans kind)
    (by rw [l, foldl_handBlankRows_lanes_length]; exact hn) fun _ _ _ _ _ _ => rfl

/-- A line record of a lane is in a queue or being sent. -/
theorem mem_lineRecords {r : LineRec} {l : Lane} :
    r ∈ lineRecords l ↔ r ∈ l.frameQueue ++ l.waiting ∨ l.sending = some (.line r) := by
  unfold lineRecords
  split
  · next q e => simp [e, or_comm, eq_comm]
  · next other => simpa using fun e => (other r e).elim

/-- The lane step hands what the statement says of every panel of a lane that is there. -/
theorem handBlanks_held {s : State} {i : Nat} {p : Panel} (hp : s.wc.panels[i]? = some p)
    (hn : p.lane < s.fu.lanes.length) :
    ∃ l, (handBlanks s).fu.lanes[p.lane]? = some l ∧
      (∀ k, k < p.kind.rows →
        (⟨i, p.addr, k + 1, blankRow⟩ : LineRec) ∈ l.frameQueue ++ l.waiting ∨
          l.sending = some (.line ⟨i, p.addr, k + 1, blankRow⟩)) ∧
      (∀ b, p.kind = .clock b →
        ∃ h, (⟨p.addr, [], h⟩ : ClockRec) ∈ l.clockQueue ∨ l.sending = some (.clock ⟨p.addr, [], h⟩)) := by
  have hl : (handBlanks s).fu.lanes[p.lane]? = some ((handBlanks s).fu.lanes[p.lane]'(by simpa using hn)) :=
    List.getElem?_eq_getElem _
  refine ⟨_, hl, fun k hk => ?_, fun b kind => ?_⟩
  · have row := handBlanks_rows hp hn hk
    rw [laneLines_of hl] at row
    exact mem_lineRecords.1 row
  · obtain ⟨l, hl', has⟩ := handBlanks_clock hp hn kind
    obtain rfl := Option.some.inj (hl.symm.trans hl')
    exact ⟨false, has⟩

/-! ### The end (R184 steps 5 and 6) -/

theorem allAccepted_iff (s : State) : allAccepted s = true ↔ ∀ l ∈ s.fu.lanes, l.waiting = [] := by
  simp [allAccepted]

/-- A publication that is requested is in progress (R178). -/
theorem requestPublication_some (s : State) : (requestPublication s).xp.publication ≠ none := by
  unfold requestPublication
  split
  · next p h => simp [State.onXp, h]
  · simp [beginPublication]

/-- Two states are equal when their blocks are. -/
theorem eq_of_blocks {s t : State} (xp : s.xp = t.xp) (ru : s.ru = t.ru) (pu : s.pu = t.pu) (sc : s.sc = t.sc)
    (wc : s.wc = t.wc) (fu : s.fu = t.fu) (cq : s.cq = t.cq) (mem : s.mem = t.mem) (pending : s.pending = t.pending)
    (free : s.freeCount = t.freeCount) : s = t := by
  cases s
  cases t
  simp_all

/-- The part is STOPPED, before the publication that this requests: the contacts are forgotten and RUN_STATE is raised. -/
def stoppedState (s : State) : State :=
  enterRun .stopped ((forgetContacts s).onXp fun x => { x with stopStage := none })

theorem enterStopped_eq (s : State) :
    enterStopped s = if s.xp.xbase = 0 then stoppedState s else requestPublication (stoppedState s) := rfl

theorem stoppedState_platforms {s : State} {p : PlatformRec} (h : p ∈ (stoppedState s).pu.platforms) :
    p.contact = .unknown ∧ p.pending = none ∧ p.history = [] := by
  obtain ⟨q, -, rfl⟩ : ∃ q ∈ s.pu.platforms, forgetContact q = p := List.mem_map.1 h
  exact ⟨rfl, rfl, rfl⟩

/-- The part is STOPPED: the contacts are forgotten, RUN_STATE is raised and, with an exchange area, a publication is in
progress (R61, R178, R184). -/
theorem enterStopped_spec (s : State) :
    (enterStopped s).xp.run = .stopped ∧ (enterStopped s).xp.stopStage = none ∧
    (enterStopped s).xp.attn = s.xp.attn ||| 64#7 ∧
    (∀ p ∈ (enterStopped s).pu.platforms, p.contact = .unknown ∧ p.pending = none ∧ p.history = []) ∧
    (s.xp.xbase ≠ 0 → (enterStopped s).xp.publication ≠ none) ∧
    enterStopped s = { s with xp := (enterStopped s).xp, pu := (enterStopped s).pu } := by
  rw [enterStopped_eq]
  split
  · next base => exact ⟨rfl, rfl, rfl, fun p => stoppedState_platforms, fun h => absurd base h, rfl⟩
  · obtain ⟨ru, pu, sc, wc, fu, cq, mem, pending, free⟩ := requestPublication_frame (stoppedState s)
    obtain ⟨run, -, attn, -, -, -, -, -, -, -, -, -, stage, -⟩ := requestPublication_port (stoppedState s)
    refine ⟨run, stage, attn, fun p hp => stoppedState_platforms (pu ▸ hp), fun _ => requestPublication_some _, ?_⟩
    exact eq_of_blocks rfl ru rfl sc wc fu cq mem pending free

/-- The lane step waits while a record waits, and otherwise is the end (R184 step 4). -/
theorem advanceStop_at_lane_spec {s : State} (run : s.xp.run = .stopping) (stage : s.xp.stopStage = some .lane) :
    ((∃ l ∈ s.fu.lanes, l.waiting ≠ []) → advanceStop s = s) ∧
    ((∀ l ∈ s.fu.lanes, l.waiting = []) → advanceStop s = enterStopped s) := by
  rw [advanceStop_at_lane run stage]
  refine ⟨fun ⟨l, hl, waits⟩ => ?_, fun accepted => ?_⟩
  · rw [laneStep, if_neg fun h => waits ((allAccepted_iff s).1 h.2 l hl)]
  · rw [laneStep, if_pos ⟨stage, (allAccepted_iff s).2 accepted⟩]

/-- Settles O35: each step of the sequence waits or goes on by its own lemma above. -/
theorem stoppingGoesStepByStep : Obligations.StoppingGoesStepByStep := by
  unfold Obligations.StoppingGoesStepByStep
  intro s run
  refine ⟨fun r h => congrArg _ (complete_awaited h), fun r h => congrArg _ (complete_awaited h), fun n => rfl,
    advanceStop_at_sheet run, fun stage => ?_, fun stage => ⟨fun busy => ?_, fun p attempt writing page => ?_,
      fun attempt writing page => ?_⟩, fun stage => ?_⟩
  case refine_1 =>
    rw [← dropRetry_eq]
    exact advanceStop_at_frame run stage
  case refine_2 => exact advanceStop_at_page_waits run stage (pageStep_waits busy)
  case refine_3 =>
    have step := pageStep_of_page stage attempt writing page
    refine ⟨fun closing => advanceStop_at_page_waits run stage (by rw [step, if_neg closing]), fun filling => ?_⟩
    rw [if_pos filling] at step
    obtain ⟨q, hq, causes, phase, count, dropped, superseded, same, req⟩ :=
      beginClose_spec (c := { p.causes with stop := true }) page
    rw [advanceStop_at_page run stage, step, laneStep_of_ne (by simp [stage])]
    exact ⟨q, hq, causes, phase, count, dropped, superseded, same.trans stage, req⟩
  case refine_4 =>
    obtain ⟨ru, pu, sc, cq, xp, mem, pending, free⟩ := handBlanks_frame (enterStage .lane s)
    refine ⟨handBlanks (enterStage .lane s), ?_, xp, ?_, fun i p hp hn => handBlanks_held (s := enterStage .lane s) hp hn⟩
    · rw [advanceStop_at_page run stage, pageStep_of_no_page stage attempt writing page,
        advanceStop_at_lane (by rw [xp]; exact run) (by rw [xp]; rfl)]
    · exact eq_of_blocks rfl ru pu sc rfl rfl cq mem pending free
  case refine_5 =>
    obtain ⟨wait, go⟩ := advanceStop_at_lane_spec run stage
    exact ⟨wait, fun accepted => by rw [go accepted]; exact enterStopped_spec s⟩

end Sys2Proof.Machine


/-! SUPPORT. What the layout gives each block: the model's reading of the layout block, field by field, is the one of the
statements (R183, R187, R188). -/

namespace Sys2Proof.Machine

open Sys2Proof.Safety

/-! ### Parameters (R188) -/

/-- A clamp to a range is the nearer end. -/
theorem clampNat_eq {a b : Nat} (h : a ≤ b) (v : Nat) : clampNat v a b = max a (min b v) := by
  unfold clampNat
  split_ifs <;> omega

/-- A parameter with a range takes its field. -/
theorem Param.value_eq {p : Param} (h : p.lo ≤ p.hi) (rd : LayoutReader) :
    p.value rd = layoutField rd p.off p.size p.lo p.hi p.dflt := by
  simp only [Param.value, layoutField, allOnes, clampNat_eq h]

theorem newRosterParams_eq (rd : LayoutReader) : newRosterParams rd = layoutTimes rd := by
  simp [newRosterParams, layoutTimes, Param.value_eq, pBoard, pClose, pArrive, pDepart, pGrace, pGone, pCancel, pStale,
    pDelayStep, pFlash]

/-! ### The roster and the notices (R183 step 3) -/

theorem restartDep_eq (count u : Nat) (d : Departure) : restartDep count u d = restarted count u d := by
  unfold restartDep restarted
  split
  · rfl
  · have empty : (d.movedFrom.filter fun p => decide (p ≤ count)).isEmpty = d.movedFrom.all fun p => decide (count < p) := by
      rw [Bool.eq_iff_iff]
      simp [List.filter_eq_nil_iff]
    simp only [trimMovedFrom, empty]

theorem newRU_eq (rd : LayoutReader) (u : Nat) (x : RU) : newRU rd u x = rosterTaken rd u x := by
  have roster : x.roster.map (restartDep (platformCountOf rd) u) = x.roster.map (restarted (rd 0x06 1) u) :=
    List.map_congr_left fun d _ => restartDep_eq _ _ d
  have notices : (newRU rd u x).notices = (rosterTaken rd u x).notices := by
    refine List.filter_congr fun n _ => ?_
    unfold noticeOutOfService
    cases n.scope with
    | platform p => rw [← decide_not]; exact decide_eq_decide.2 Nat.not_lt
    | _ => rfl
  calc newRU rd u x
    _ = { x with
          par := newRosterParams rd
          roster := x.roster.map (restartDep (platformCountOf rd) u)
          notices := (newRU rd u x).notices } := rfl
    _ = rosterTaken rd u x := by rw [newRosterParams_eq, roster, notices, rosterTaken]

/-- In a roster that a layout leaves, no departure stands at a platform above the count, nor lists one it moved from. -/
theorem restarted_inService {count u : Nat} {d : Departure} :
    (∀ p, (restarted count u d).platform = some p → p ≤ count) ∧ ∀ p ∈ (restarted count u d).movedFrom, p ≤ count := by
  unfold restarted
  split
  · simp
  · next standing =>
    refine ⟨fun p hp => ?_, fun p hp => by simpa using List.of_mem_filter hp⟩
    have hp : d.platform = some p := hp
    rw [hp] at standing
    simpa using standing

/-! ### The wall (R106, R107, R117, R126) -/

theorem newPanel_eq (rd : LayoutReader) (u i : Nat) : newPanel rd u i = layoutPanel rd u i := by
  have horizon : (pHorizon i).value rd = layoutField rd (0x340 + 16 * i + 12) 2 10 1440 180 :=
    Param.value_eq (by simp [pHorizon]) rd
  have dwell : (pDwell i).value rd = layoutField rd (0x340 + 16 * i + 14) 1 3 60 10 :=
    Param.value_eq (by simp [pDwell]) rd
  have range : rd (0x340 + 16 * i) 1 % 4 = 0 ∨ rd (0x340 + 16 * i) 1 % 4 = 1 ∨ rd (0x340 + 16 * i) 1 % 4 = 2 ∨
      rd (0x340 + 16 * i) 1 % 4 = 3 := by omega
  unfold newPanel layoutPanel newKind panelKindOf newBoard
  rw [horizon, dwell]
  rcases range with h | h | h | h <;> simp only [panelOff, h] <;> rfl

theorem newWC_takes (rd : LayoutReader) (u : Nat) (x : WC) : ComposerTakes rd u x (newWC rd u x) := by
  have panels : (List.range (panelCountOf rd)).map (newPanel rd u) = (List.range (rd 0x07 1)).map (layoutPanel rd u) :=
    List.map_congr_left fun i _ => newPanel_eq rd u i
  have colours : ((List.range 8).map fun k => (pColour k).value rd) =
      (List.range 8).map fun k => layoutField rd (0x120 + k) 1 0 7 k :=
    List.map_congr_left fun k _ => Param.value_eq (by simp [pColour]) rd
  have period : pFramePeriod.value rd = layoutField rd 0x38 2 200 5000 500 := Param.value_eq (by decide) rd
  have refresh : pRefresh.value rd = layoutField rd 0x3C 2 1 255 120 := Param.value_eq (by decide) rd
  refine ⟨?_, rfl⟩
  unfold newWC
  rw [panels, colours, period, refresh]
  rfl

/-! ### Cues (R141, R154, R159, R166) -/

theorem newPriorities_get (rd : LayoutReader) {k : Nat} (hk : k < 11) (notice : k ≠ 6) :
    (newPriorities rd)[k]? =
      some (layoutField rd (0x128 + k) 1 0 3 ([1, 1, 0, 2, 0, 2, 0, 1, 1, 1, 1].getD k 0)) := by
  have dflt : defaultPriorities.getD k 1 = [1, 1, 0, 2, 0, 2, 0, 1, 1, 1, 1].getD k 0 := by
    rw [List.getD_eq_getElem (hn := hk), List.getD_eq_getElem (hn := hk)]
    rfl
  have value : (pPriority k).value rd = layoutField rd (0x128 + k) 1 0 3 (defaultPriorities.getD k 1) :=
    Param.value_eq (by simp [pPriority]) rd
  rw [← dflt, ← value]
  simp [newPriorities, hk, notice]

/-- An item of a template has the code that its entry holds, and a literal its value. -/
theorem itemOf_spec {rd : LayoutReader} {k i : Nat} {item : Item} (h : itemOf rd k i = some item) :
    itemCode item = rd (0x644 + 68 * k + 4 * i) 1 ∧ ∀ v, item = .literal v → v = rd (0x646 + 68 * k + 4 * i) 2 := by
  have code : templateOff k + 4 + 4 * i = 0x644 + 68 * k + 4 * i := by simp only [templateOff]; omega
  have value : templateOff k + 6 + 4 * i = 0x646 + 68 * k + 4 * i := by simp only [templateOff]; omega
  unfold itemOf at h
  rw [code, value] at h
  split at h
  case h_1 c =>
    obtain rfl := Option.some.inj h
    exact ⟨c.symm, fun v e => (Item.literal.inj e).symm⟩
  case h_12 => cases h
  all_goals
    next c =>
    obtain rfl := Option.some.inj h
    exact ⟨c.symm, fun v e => nomatch e⟩

/-- In a layout that passes its checks every template's items are known (R188). -/
theorem checkLayout_items {rd : LayoutReader} (h : checkLayout rd = none) {k i : Nat} (hk : k < 11)
    (hi : i < itemCountOf rd k) : ∃ item, itemOf rd k i = some item := by
  have templates : checkTemplates rd = none := firstFault_eq_none.1 h _ (by simp)
  have known := (Bool.or_eq_false_iff.1 (firstBad_eq_none.1 templates k hk)).2
  rw [List.any_eq_false] at known
  simpa [Option.ne_none_iff_exists'] using known i (List.mem_range.2 hi)

/-- The template of a kind in a layout that passes its checks holds every item of its entry. -/
theorem newTemplate_eq {rd : LayoutReader} (h : checkLayout rd = none) {k : Nat} (hk : k < 11) :
    newTemplate rd k = (List.range (itemCountOf rd k)).map fun i => (itemOf rd k i).getD .runLabel := by
  refine List.filterMap_eq_map_iff_forall_eq_some.2 fun i hi => ?_
  obtain ⟨item, e⟩ := checkLayout_items h hk (List.mem_range.1 hi)
  rw [e]
  rfl

theorem newTemplate_spec {rd : LayoutReader} (h : checkLayout rd = none) {k : Nat} (hk : k < 11) :
    (newTemplate rd k).map itemCode =
        (List.range (rd (0x640 + 68 * k) 1)).map (fun i => rd (0x644 + 68 * k + 4 * i) 1) ∧
      ∀ i v, (newTemplate rd k)[i]? = some (.literal v) → v = rd (0x646 + 68 * k + 4 * i) 2 := by
  rw [newTemplate_eq h hk]
  refine ⟨?_, fun i v hv => ?_⟩
  · rw [List.map_map]
    refine List.map_congr_left fun i hi => ?_
    obtain ⟨item, e⟩ := checkLayout_items h hk (List.mem_range.1 hi)
    simp only [Function.comp_apply, e, Option.getD_some]
    exact (itemOf_spec e).1
  · obtain ⟨j, hj, hit⟩ := List.getElem?_map .. ▸ hv |> Option.map_eq_some_iff.1
    obtain ⟨hi, rfl⟩ := List.getElem?_eq_some_iff.1 hj
    rw [List.length_range] at hi
    obtain ⟨item, e⟩ := checkLayout_items h hk hi
    rw [List.getElem_range, e] at hit
    exact (itemOf_spec e).2 v hit

theorem newCQ_takes {rd : LayoutReader} (h : checkLayout rd = none) (x : CQ) : CuesTake rd x (newCQ rd x) := by
  have hold : pHold.value rd = layoutField rd 0x3A 2 0 5000 500 := Param.value_eq (by decide) rd
  have char : pCharBase.value rd = layoutField rd 0x40 2 0 65535 0 := Param.value_eq (by decide) rd
  have number : pNumberBase.value rd = layoutField rd 0x42 2 0 65535 0 := Param.value_eq (by decide) rd
  have hour : pHourBase.value rd = layoutField rd 0x44 2 0 65535 0 := Param.value_eq (by decide) rd
  have minute : pMinuteBase.value rd = layoutField rd 0x46 2 0 65535 0 := Param.value_eq (by decide) rd
  refine ⟨?_, ⟨by simp [newCQ, newPriorities], fun k => newPriorities_get rd⟩,
    by simp [newCQ], fun k items hk => ?_⟩
  · rw [← hold, ← char, ← number, ← hour, ← minute]
    rfl
  · obtain ⟨lt, rfl⟩ : k < 11 ∧ newTemplate rd k = items := by
      simpa [newCQ, List.getElem?_eq_some_iff] using hk
    exact newTemplate_spec h lt

/-! ### Lines, dim channels and platforms (R131, R135, R136, R52) -/

theorem newFn_eq (rd : LayoutReader) (i : Nat) : newFn rd i = layoutFn rd i := by
  have width : (pStrobe i).value rd = layoutField rd (0x242 + 4 * i) 2 1 255 10 := by
    rw [Param.value_eq (by simp [pStrobe])]
    simp only [pStrobe]
    congr 1
    omega
  have option : 0x240 + 4 * i + 1 = 0x241 + 4 * i := by omega
  unfold newFn lineFnOf layoutFn
  rw [width, option]
  split <;> simp_all [bitAt, markEdgeOf]

theorem newDim_iff (rd : LayoutReader) (k : Nat) :
    newDim rd k = true ↔ layoutFn rd (32 + 2 * k) = .dimTrue ∧ layoutFn rd (33 + 2 * k) = .dimComp := by
  simp [newDim, newFn_eq]

theorem newDimParams_eq (rd : LayoutReader) (k : Nat) : newDimParams rd k = layoutDim rd k := by
  simp [newDimParams, layoutDim, sensorOf, Param.value_eq, pDimBase, pDimSlope, pDimMin, pDimMax, pNightStart, pNightEnd,
    pNightMax, pDead]

theorem newPlatform_eq (rd : LayoutReader) (p : Nat) : newPlatform rd p = platformTaken rd none p := by
  have option : 0x140 + 8 * (p - 1) + 1 = 0x141 + 8 * (p - 1) := by omega
  have filter : (pFilter p).value rd = layoutField rd (0x142 + 8 * (p - 1)) 2 200 10000 2000 := by
    rw [Param.value_eq (by simp [pFilter])]
    simp only [pFilter]
    congr 1
    omega
  unfold newPlatform platformTaken platformCountOf
  rw [filter, option]
  split_ifs <;> rfl

end Sys2Proof.Machine


/-! SUPPORT. The field lines, dim channels and platforms as a layout leaves them, and the baselines that follow (R59, R131
to R133, R136, R183). -/

namespace Sys2Proof.Machine

open Sys2Proof.Safety

/-! ### Field lines (R131 to R133) -/

theorem newFU_line (rd : LayoutReader) (inputs : LineInputs) {x : FU} {i : Nat} {old : FieldLine}
    (h : x.lines[i]? = some old) : (newFU rd inputs x).lines[i]? = some (newLine rd inputs i old) := by
  simp [newFU, List.getElem?_zipIdx, h]

/-- A line that becomes CONTACT holds its first sample, and one that was CONTACT keeps its level (log 9). -/
theorem newLine_contact {rd : LayoutReader} {inputs : LineInputs} {i : Nat} {old : FieldLine} {pull : Bool}
    (h : layoutFn rd i = .contact pull) :
    (newLine rd inputs i old).level =
      if old.fn.isContact = true then old.level
      else (inputs.levels.getLsbD i || (pull && !inputs.driven.getLsbD i)) := by
  simp only [newLine, newFn_eq, h, sameSampled, LineFn.sampled]
  cases old.fn.isContact <;> simp [LineFn.isContact, LineFn.isMark]

/-- A line that becomes MARK holds its first sample, and one that was MARK keeps its level (log 9). -/
theorem newLine_mark {rd : LayoutReader} {inputs : LineInputs} {i : Nat} {old : FieldLine} {e : MarkEdge}
    (h : layoutFn rd i = .mark e) :
    (newLine rd inputs i old).level = if old.fn.isMark = true then old.level else inputs.levels.getLsbD i := by
  simp only [newLine, newFn_eq, h, sameSampled, LineFn.sampled]
  cases old.fn.isMark <;> simp [LineFn.isContact, LineFn.isMark]

section
variable {x : FU} {i : Nat} {l : FieldLine}

/-! What is driven on a line, function by function (R131). -/

theorem lineDrive_input (h : x.lines[i]? = some l)
    (fn : (∃ pull, l.fn = .contact pull) ∨ (∃ e, l.fn = .mark e) ∨ l.fn = .idle ∨ l.fn = .analog) :
    lineDrive x i = .nothing := by
  rcases fn with ⟨pull, fn⟩ | ⟨e, fn⟩ | fn | fn <;> simp [lineDrive, h, fn]

theorem lineDrive_lane {n : Nat} (h : x.lines[i]? = some l) (fn : l.fn = .lane n) :
    lineDrive x i = laneDrive x.lanes[n]? := by
  simp [lineDrive, h, fn]

theorem lineDrive_strobe {low : Bool} {width : Nat} (h : x.lines[i]? = some l) (fn : l.fn = .strobe low width) :
    lineDrive x i = .level (strobeLevel low l.pulseEnd) := by
  simp [lineDrive, h, fn]

theorem lineDrive_dimTrue {k : Nat} (h : x.lines[32 + 2 * k]? = some l) (fn : l.fn = .dimTrue) :
    lineDrive x (32 + 2 * k) = dimDrive DimDrive.trueHigh x.dims[k]? := by
  have channel : (32 + 2 * k - 32) / 2 = k := by omega
  simp only [lineDrive, h, fn, channel]

theorem lineDrive_dimComp {k : Nat} (h : x.lines[33 + 2 * k]? = some l) (fn : l.fn = .dimComp) :
    lineDrive x (33 + 2 * k) = dimDrive DimDrive.compHigh x.dims[k]? := by
  have channel : (33 + 2 * k - 32) / 2 = k := by omega
  simp only [lineDrive, h, fn, channel]

end

/-- An idle lane's line is low (log 40). -/
theorem laneDrive_newFU (rd : LayoutReader) (inputs : LineInputs) (x : FU) (n : Nat) :
    laneDrive (newFU rd inputs x).lanes[n]? = .level false := by
  have idle : (newFU rd inputs x).lanes[n]? = x.lanes[n]?.map fun _ => Lane.reset := List.getElem?_map ..
  unfold laneDrive
  rw [idle]
  cases x.lanes[n]? <;> rfl

/-- Each line of a layout has its function and its first level, and each output its inactive level (R131 to R133). -/
theorem newFU_line_spec (rd : LayoutReader) (inputs : LineInputs) {x : FU} {i : Nat} {old : FieldLine}
    (h : x.lines[i]? = some old) :
    ∃ l, (newFU rd inputs x).lines[i]? = some l ∧ l.fn = layoutFn rd i ∧ l.pulseEnd = none ∧
      (∀ pull, l.fn = .contact pull →
        l.level =
          if old.fn.isContact = true then old.level
          else (inputs.levels.getLsbD i || (pull && !inputs.driven.getLsbD i))) ∧
      (∀ e, l.fn = .mark e → l.level = if old.fn.isMark = true then old.level else inputs.levels.getLsbD i) ∧
      (∀ low width, l.fn = .strobe low width → lineDrive (newFU rd inputs x) i = .level low) ∧
      (∀ n, l.fn = .lane n → lineDrive (newFU rd inputs x) i = .level false) ∧
      ((∃ pull, l.fn = .contact pull) ∨ (∃ e, l.fn = .mark e) ∨ l.fn = .idle ∨ l.fn = .analog →
        lineDrive (newFU rd inputs x) i = .nothing) := by
  have line := newFU_line rd inputs h
  have fn : (newLine rd inputs i old).fn = layoutFn rd i := newFn_eq rd i
  refine ⟨_, line, fn, rfl, fun pull e => newLine_contact (fn ▸ e), fun e he => newLine_mark (fn ▸ he),
    fun low width e => ?_, fun n e => ?_, lineDrive_input line⟩
  · rw [lineDrive_strobe line e]
    simp [strobeLevel, newLine]
  · rw [lineDrive_lane line e]
    exact laneDrive_newFU rd inputs x n

/-! ### Dim channels (R132, R136) -/

theorem newFU_dim (rd : LayoutReader) (inputs : LineInputs) {x : FU} {k : Nat} {old : Dim}
    (h : x.dims[k]? = some old) : (newFU rd inputs x).dims[k]? = some (newDimChannel rd k old) := by
  simp [newFU, List.getElem?_zipIdx, h]

/-- Each channel of a layout is at duty 0; a configured one has its parameters and drives its pair dark, and another keeps
its parameters and drives nothing (R132, R136, log 33). -/
theorem newFU_dim_spec (rd : LayoutReader) (inputs : LineInputs) {x : FU} {k : Nat} {old : Dim}
    (h : x.dims[k]? = some old) :
    ∃ d, (newFU rd inputs x).dims[k]? = some d ∧ d.duty = 0 ∧
      (layoutFn rd (32 + 2 * k) = .dimTrue ∧ layoutFn rd (33 + 2 * k) = .dimComp →
        d.par = layoutDim rd k ∧
        (33 + 2 * k < x.lines.length →
          lineDrive (newFU rd inputs x) (32 + 2 * k) = .periods none ∧
            lineDrive (newFU rd inputs x) (33 + 2 * k) = .periods (some (0, 10000)))) ∧
      (layoutFn rd (32 + 2 * k) ≠ .dimTrue ∨ layoutFn rd (33 + 2 * k) ≠ .dimComp → d.par = old.par ∧ d.drive = none) := by
  have dim := newFU_dim rd inputs h
  by_cases c : layoutFn rd (32 + 2 * k) = .dimTrue ∧ layoutFn rd (33 + 2 * k) = .dimComp
  · have channel : newDimChannel rd k old = ⟨newDimParams rd k, 0, some ⟨none, some (0, 10000)⟩⟩ := by
      rw [newDimChannel, if_pos ((newDim_iff rd k).2 c)]
      rfl
    rw [channel] at dim
    refine ⟨_, dim, rfl, fun _ => ⟨newDimParams_eq rd k, fun there => ⟨?_, ?_⟩⟩, fun other => ?_⟩
    · have line := newFU_line rd inputs (List.getElem?_eq_getElem (l := x.lines) (i := 32 + 2 * k) (by omega))
      rw [lineDrive_dimTrue line ((newFn_eq rd _).trans c.1), dim]
      rfl
    · have line := newFU_line rd inputs (List.getElem?_eq_getElem (l := x.lines) (i := 33 + 2 * k) there)
      rw [lineDrive_dimComp line ((newFn_eq rd _).trans c.2), dim]
      rfl
    · exact absurd c fun ⟨a, b⟩ => other.elim (· a) (· b)
  · have channel : newDimChannel rd k old = ⟨old.par, 0, none⟩ := by
      rw [newDimChannel, if_neg fun on => c ((newDim_iff rd k).1 on)]
    rw [channel] at dim
    exact ⟨_, dim, rfl, fun on => absurd on c, fun _ => ⟨rfl, rfl⟩⟩

/-! ### Platforms and baselines (R52, R59) -/

/-- A baseline of a platform's record: with a contact line it has a pending change since `u`. -/
def withBaseline (level : Nat → Bool) (u : Nat) (r : PlatformRec) : PlatformRec :=
  match r.line with
  | none => r
  | some line =>
    { r with contact := .unknown, history := [], pending := some ⟨occupancyOf r (level line), u⟩ }

/-- A baseline changes the record of its platform alone. -/
theorem startBaseline_get (i n : Nat) (s : State) :
    (startBaseline (i + 1) s).pu.platforms[n]? =
      if i = n then s.pu.platforms[n]?.map (withBaseline (lineLevel s) s.sc.u) else s.pu.platforms[n]? := by
  have rec_eq : platformRec s (i + 1) = s.pu.platforms[i]?.getD PlatformRec.reset := by
    simp [platformRec, List.getD_eq_getElem?_getD]
  unfold startBaseline
  split
  · next none =>
    split
    · next same =>
      subst same
      cases h : s.pu.platforms[i]? with
      | none => rfl
      | some r =>
        rw [rec_eq, h, Option.getD_some] at none
        simp [withBaseline, none]
    · rfl
  · next line some =>
    simp only [setPlatform, Nat.add_one_ne_zero, if_false, onPu_pu, Nat.add_sub_cancel, List.getElem?_modify]
    split
    · next same =>
      subst same
      cases h : s.pu.platforms[i]? with
      | none => rfl
      | some r =>
        rw [rec_eq, h, Option.getD_some] at some
        simp [withBaseline, some]
    · simp

/-- A baseline changes the Platform Unit alone, and not its platform count. -/
theorem startBaseline_pu (p : Nat) (s : State) :
    startBaseline p s = { s with pu := (startBaseline p s).pu } ∧
      (startBaseline p s).pu.platformCount = s.pu.platformCount := by
  unfold startBaseline
  split
  · exact ⟨rfl, rfl⟩
  · unfold setPlatform
    split <;> exact ⟨rfl, rfl⟩

/-- The baselines of the first `n` platforms start. -/
def baselines (n : Nat) (s : State) : State := (List.range n).foldl (fun acc i => startBaseline (i + 1) acc) s

theorem baselines_succ (n : Nat) (s : State) : baselines (n + 1) s = startBaseline (n + 1) (baselines n s) := by
  simp [baselines, List.range_succ]

/-- The end of a START starts the baselines of the platforms in service first (R183 step 6). -/
theorem firstWork_eq (s : State) :
    firstWork s = requestFrame (clockRecords (baselines s.pu.platformCount s)) := rfl

theorem baselines_pu (n : Nat) (s : State) :
    baselines n s = { s with pu := (baselines n s).pu } ∧ (baselines n s).pu.platformCount = s.pu.platformCount := by
  induction n with
  | zero => exact ⟨rfl, rfl⟩
  | succ n ih =>
    obtain ⟨same, count⟩ := startBaseline_pu (n + 1) (baselines n s)
    rw [baselines_succ]
    refine ⟨?_, count.trans ih.2⟩
    rw [same, ih.1]

/-- The baselines change the records of their platforms alone. -/
theorem baselines_get (n k : Nat) (s : State) :
    (baselines n s).pu.platforms[k]? =
      if k < n then s.pu.platforms[k]?.map (withBaseline (lineLevel s) s.sc.u) else s.pu.platforms[k]? := by
  induction n with
  | zero => rfl
  | succ n ih =>
    have level : lineLevel (baselines n s) = lineLevel s := by rw [(baselines_pu n s).1]; rfl
    have time : (baselines n s).sc.u = s.sc.u := by rw [(baselines_pu n s).1]
    rw [baselines_succ, startBaseline_get, ih, level, time]
    by_cases e : n = k
    · subst e
      simp
    · have lt : k < n + 1 ↔ k < n := by omega
      simp only [e, if_false, lt]

/-- After the baselines of a layout each platform in service has its record, with a pending change where it has a contact
line; the record of one above the count is as at reset (R59, R183 step 6, log 35). -/
theorem baselines_newPU {rd : LayoutReader} {m : State} (pu : m.pu = newPU rd) {p : Nat} (pos : 1 ≤ p) (le : p ≤ 32) :
    (baselines (rd 0x06 1) m).pu.platforms[p - 1]? =
      some
        (platformTaken rd
          ((layoutOption rd (0x140 + 8 * (p - 1)) 1).map fun l =>
            ⟨xor (lineLevel m l) ((rd (0x141 + 8 * (p - 1)) 1).testBit 0), m.sc.u⟩) p) := by
  have at_layout : m.pu.platforms[p - 1]? = some (platformTaken rd none p) := by
    rw [← newPlatform_eq, pu]
    have lt : p - 1 < 32 := by omega
    simp [newPU, lt, Nat.sub_add_cancel pos]
  rw [baselines_get, at_layout]
  by_cases h : p ≤ rd 0x06 1
  · rw [if_pos (by omega)]
    simp only [platformTaken, if_pos h, Option.map_some, withBaseline]
    cases layoutOption rd (0x140 + 8 * (p - 1)) 1 <;> rfl
  · rw [if_neg (by omega)]
    simp only [platformTaken, if_neg h]

end Sys2Proof.Machine


/-! SUPPORT. What the records of clock panels and a frame leave as it is: every line and channel, the places of the panels,
and the clock records that the lanes have been given (R108 to R113, R121, R128). -/

namespace Sys2Proof.Machine

open Sys2Proof.Safety

/-! ### Work on the lanes -/

/-- `t` comes from `s` by work on the lanes: of the Field Line Unit the lanes alone may differ, and of the Wall Composer
the panels, by their sent images. -/
structure LaneWork (s t : State) : Prop where
  fu : t.fu = { s.fu with lanes := t.fu.lanes }
  wc : t.wc = { s.wc with panels := t.wc.panels }
  places : t.wc.panels.map Panel.place = s.wc.panels.map Panel.place

theorem LaneWork.refl (s : State) : LaneWork s s := ⟨rfl, rfl, rfl⟩

theorem LaneWork.trans {s t u : State} (h : LaneWork s t) (k : LaneWork t u) : LaneWork s u :=
  ⟨by rw [k.fu, h.fu], by rw [k.wc, h.wc], k.places.trans h.places⟩

theorem LaneWork.foldl {α : Type} {f : State → α → State} (h : ∀ s a, LaneWork s (f s a)) (l : List α) (s : State) :
    LaneWork s (l.foldl f s) :=
  foldl_keeps (P := LaneWork s) (fun t a _ k => k.trans (h t a)) (.refl s)

theorem onLane_work (n : Nat) (f : Lane → Lane) (s : State) : LaneWork s (onLane n f s) := ⟨rfl, rfl, rfl⟩

theorem acceptRecord_work (n : Nat) (r : LineRec) (s : State) : LaneWork s (acceptRecord n r s) :=
  ⟨rfl, rfl, acceptRecord_places n r s⟩

theorem transmitNext_work (n : Nat) (s : State) : LaneWork s (transmitNext n s) := by
  obtain h | ⟨l, -, -, ⟨c, cs, -, h⟩ | ⟨r, rs, -, -, -, h⟩ | ⟨r, rs, w, ws, -, -, -, h⟩⟩ := transmitNext_cases n s <;>
    rw [h]
  · exact .refl s
  · exact onLane_work n _ s
  · exact onLane_work n _ s
  · exact (onLane_work n _ s).trans (acceptRecord_work n w _)

theorem handRecord_work (n : Nat) (r : LineRec) (s : State) : LaneWork s (handRecord n r s) := by
  obtain ⟨-, h⟩ | ⟨l, -, ⟨-, -, h⟩ | h⟩ := handRecord_cases n r s <;> rw [h]
  · exact .refl s
  · exact (acceptRecord_work n r s).trans (transmitNext_work n _)
  · exact onLane_work n _ s

theorem handPanel_work (text : Bool → List Byte) (holdover : Bool) (s : State) (p : Panel) :
    LaneWork s (handPanel text holdover s p) := by
  unfold handPanel
  split
  · exact (onLane_work _ _ s).trans (transmitNext_work _ _)
  · exact .refl s

theorem clockRecords_work (s : State) : LaneWork s (clockRecords s) := .foldl (handPanel_work _ _) _ s

/-! ### Frames -/

/-- `t` comes from `s` by the work of a frame: of the Field Line Unit the lanes alone may differ, the panels keep their
places, and every clock record stays with its lane. -/
structure FrameWork (s t : State) : Prop where
  fu : t.fu = { s.fu with lanes := t.fu.lanes }
  places : t.wc.panels.map Panel.place = s.wc.panels.map Panel.place
  held : ∀ n c, ClockHeld n c s → ClockHeld n c t

theorem FrameWork.refl (s : State) : FrameWork s s := ⟨rfl, rfl, fun _ _ h => h⟩

theorem FrameWork.trans {s t u : State} (h : FrameWork s t) (k : FrameWork t u) : FrameWork s u :=
  ⟨by rw [k.fu, h.fu], k.places.trans h.places, fun n c x => k.held n c (h.held n c x)⟩

theorem FrameWork.foldl {α : Type} {f : State → α → State} (h : ∀ s a, FrameWork s (f s a)) (l : List α) (s : State) :
    FrameWork s (l.foldl f s) :=
  foldl_keeps (P := FrameWork s) (fun t a _ k => k.trans (h t a)) (.refl s)

/-- What leaves the Field Line Unit alone and the panels in their places is within a frame's work. -/
theorem FrameWork.of_fu {s t : State} (fu : t.fu = s.fu)
    (places : t.wc.panels.map Panel.place = s.wc.panels.map Panel.place) : FrameWork s t :=
  ⟨by rw [fu], places, fun _ _ h => h.of_lanes (by rw [fu])⟩

theorem emitRow_frameWork (full : Bool) (copies : List (Nat × NameText)) (i : Nat) (p : Panel) (r : Nat × SymRow)
    (s : State) : FrameWork s (emitRow full copies i p r s) := by
  unfold emitRow
  dsimp only
  split
  · exact ⟨(handRecord_work _ _ s).fu, (handRecord_work _ _ s).places, fun _ _ h => h.handRecord _ _⟩
  · exact .refl s

theorem emitRow_work (full : Bool) (copies : List (Nat × NameText)) (i : Nat) (p : Panel) (r : Nat × SymRow)
    (s : State) : LaneWork s (emitRow full copies i p r s) := by
  unfold emitRow
  dsimp only
  split
  · exact handRecord_work _ _ s
  · exact .refl s

theorem emitRows_frameWork (s : State) : FrameWork s (emitRows s) := by
  unfold emitRows
  split
  · exact .refl s
  · next f _ =>
    have begun : FrameWork s (s.onWc fun x => { x with frame := some { f with emitting := true } }) := .of_fu rfl rfl
    exact begun.trans (.foldl (fun _ _ => .foldl (fun _ _ => emitRow_frameWork _ _ _ _ _ _) _ _) _ _)

theorem progressNames_frameWork (s : State) : FrameWork s (progressNames s) := by
  unfold progressNames
  split
  · split
    · exact emitRows_frameWork s
    · exact .refl s
  · exact .refl s

/-- The numbers of frames, the time of the last snapshot, and the frame-wanted mark. -/
def frameMarks (x : WC) : Nat × Option Nat × Bool := (x.framesStarted, x.lastSnapshot, x.frameWanted)

theorem LaneWork.marks {s t : State} (h : LaneWork s t) : frameMarks t.wc = frameMarks s.wc := by
  rw [h.wc]
  rfl

theorem emitRows_marks (s : State) : frameMarks (emitRows s).wc = frameMarks s.wc := by
  unfold emitRows
  split
  · rfl
  · exact (LaneWork.foldl (fun _ _ => .foldl (fun _ _ => emitRow_work _ _ _ _ _ _) _ _) _ _).marks

theorem progressNames_marks (s : State) : frameMarks (progressNames s).wc = frameMarks s.wc := by
  unfold progressNames
  split
  · split
    · exact emitRows_marks s
    · rfl
  · rfl

/-- A change of the Wall Composer that lookups of names make: of the cache, the read and the misses alone (R111, R123,
R124). -/
def NamesOnly (x y : WC) : Prop := y = { x with cache := y.cache, fetch := y.fetch, misses := y.misses }

theorem NamesOnly.refl (x : WC) : NamesOnly x x := rfl

theorem NamesOnly.trans {x y z : WC} (h : NamesOnly x y) (k : NamesOnly y z) : NamesOnly x z := by
  unfold NamesOnly at *
  rw [k, h]

theorem startFetch_names (s : State) : NamesOnly s.wc (startFetch s).wc := by
  unfold startFetch
  split
  · rw [(request_frame _ _).2.2.2.1]
    rfl
  · exact .refl _

theorem askName_names (c : Bool) (i : Nat) (s : State) : NamesOnly s.wc (askName c i s).wc := by
  unfold askName
  split
  · split <;> rfl
  · exact .trans (y := { s.wc with misses := addMiss c i s.wc.misses }) rfl (startFetch_names _)

theorem lookupName_names (c : Bool) (i : Nat) (s : State) : NamesOnly s.wc (lookupName c i s).1.wc := by
  unfold lookupName
  split
  · rfl
  · split
    · rfl
    · exact askName_names c i s

theorem lookupNames_names (c : Bool) (l : List Nat) (s : State) : NamesOnly s.wc (lookupNames c l s).state.wc := by
  induction l generalizing s with
  | nil => rfl
  | cons i l ih =>
    have h := (lookupName_names c i s).trans (ih _)
    unfold lookupNames
    dsimp only
    split <;> exact h

theorem takeFirstEligible_names (s : State) : NamesOnly s.wc (takeFirstEligible s).wc := by
  unfold takeFirstEligible
  split
  · dsimp only
    rw [(progressWrite_frame _).2.2.2.1]
    exact lookupNames_names _ _ _
  · rfl

theorem framesReached_names (s : State) : NamesOnly s.wc (framesReached s).wc := by
  unfold framesReached writerTest
  rw [(tryOpenPage_frame _).2.2.2.1]
  split
  · exact takeFirstEligible_names _
  · rfl

theorem NamesOnly.marks {x y : WC} (h : NamesOnly x y) : frameMarks y = frameMarks x := by
  rw [h]
  rfl

theorem NamesOnly.panels {x y : WC} (h : NamesOnly x y) : y.panels = x.panels := by
  rw [h]

/-- SNAPSHOT: the frame's number, the time of the snapshot and the pages (R109, R110, R117). -/
def snapshotTaken (s : State) : State :=
  s.onWc fun x =>
    { x with
      framesStarted := count32 s.wc.framesStarted
      lastSnapshot := some s.sc.u
      panels := turnPages (takeSnapshot s) x.panels }

/-- The names of the rows are looked up after SNAPSHOT (R111). -/
def namesLooked (s : State) : Lookups :=
  lookupNames true (rowNames (wallRows (snapshotTaken s).wc (takeSnapshot s))) (snapshotTaken s)

theorem startFrame_eq (s : State) :
    startFrame s =
      progressNames
        ((namesLooked s).state.onWc fun x =>
          { x with
            frame :=
              some
                ⟨count32 s.wc.framesStarted, decide (count32 s.wc.framesStarted % x.refreshCount = 0), takeSnapshot s,
                  (namesLooked s).copies, (namesLooked s).awaiting, false⟩ }) := rfl

theorem startFrame_frameWork (s : State) : FrameWork s (startFrame s) := by
  have panels : (namesLooked s).state.wc.panels = turnPages (takeSnapshot s) s.wc.panels :=
    (lookupNames_names _ _ _).panels
  rw [startFrame_eq]
  refine .trans (.of_fu ?_ ?_) (progressNames_frameWork _)
  · exact (lookupNames_frame _ _ _).2.2.2.1
  · show (namesLooked s).state.wc.panels.map Panel.place = _
    rw [panels, turnPages_places]

theorem startFrame_marks (s : State) :
    frameMarks (startFrame s).wc = (count32 s.wc.framesStarted, some s.sc.u, s.wc.frameWanted) := by
  rw [startFrame_eq, progressNames_marks]
  exact (lookupNames_names true _ (snapshotTaken s)).marks

theorem completeFrame_names (s : State) :
    NamesOnly { s.wc with frame := none, framesCompleted := count32 s.wc.framesCompleted } (completeFrame s).wc := by
  have h := framesReached_names
    (requestPublication (s.onWc fun x => { x with frame := none, framesCompleted := count32 x.framesCompleted }))
  rwa [(requestPublication_frame _).2.2.2.1] at h

theorem completeFrame_frameWork (s : State) : FrameWork s (completeFrame s) :=
  .of_fu (by simp) (congrArg (·.map Panel.place) (completeFrame_names s).panels)

theorem completeFrame_marks (s : State) : frameMarks (completeFrame s).wc = frameMarks s.wc :=
  (completeFrame_names s).marks

theorem clearWanted_frameWork (s : State) : FrameWork s (s.onWc fun x => { x with frameWanted := false }) :=
  .of_fu rfl rfl

theorem progressFrame_frameWork (s : State) : FrameWork s (progressFrame s) := by
  unfold progressFrame
  split
  · dsimp only
    have ended := completeFrame_frameWork s
    split
    · have begun : FrameWork s (startFrame ((completeFrame s).onWc fun x => { x with frameWanted := false })) :=
        ended.trans ((clearWanted_frameWork _).trans (startFrame_frameWork _))
      split
      · exact begun.trans (completeFrame_frameWork _)
      · exact begun
    · exact ended
  · exact .refl s

/-- With no frame wanted, the end of a frame starts none (R113 step 4). -/
theorem progressFrame_marks {s : State} (unwanted : s.wc.frameWanted = false) :
    frameMarks (progressFrame s).wc = frameMarks s.wc := by
  have ended := completeFrame_marks s
  have none_wanted : (completeFrame s).wc.frameWanted = false := (congrArg (·.2.2) ended).trans unwanted
  unfold progressFrame
  split
  · simp only [none_wanted, Bool.false_eq_true, false_and, if_false]
    exact ended
  · rfl

theorem requestFrame_frameWork (s : State) : FrameWork s (requestFrame s) := by
  unfold requestFrame
  split
  · split
    · exact .of_fu rfl rfl
    · exact (startFrame_frameWork s).trans (progressFrame_frameWork _)
  · exact .refl s

/-- A frame request in RUNNING with no frame in flight starts one frame (R108, R109). -/
theorem requestFrame_starts {s : State} (run : s.xp.run = .running) (idle : s.wc.frame = none)
    (unwanted : s.wc.frameWanted = false) :
    (requestFrame s).wc.framesStarted = (s.wc.framesStarted + 1) % 2 ^ 32 ∧
      (requestFrame s).wc.lastSnapshot = some s.sc.u := by
  have begun := startFrame_marks s
  have mark : (startFrame s).wc.frameWanted = false := (congrArg (·.2.2) begun).trans unwanted
  have marks := (progressFrame_marks mark).trans begun
  have eq : requestFrame s = progressFrame (startFrame s) := by simp [requestFrame, run, idle]
  rw [eq]
  exact ⟨congrArg (·.1) marks, congrArg (·.2.1) marks⟩

end Sys2Proof.Machine


/-! PROOF of the application of a layout: what every block takes, and the first work of RUNNING (R183). -/

namespace Sys2Proof.Machine

open Sys2Proof.Safety

/-! ### Every block takes the layout (R183 steps 1 to 5) -/

theorem takeLayout_eq (rd : LayoutReader) (inputs : LineInputs) (s : State) :
    takeLayout rd inputs s =
      { s with
        xp :=
          { s.xp with
            run := .running, attn := s.xp.attn ||| 64#7, faultCode := 0, faultIndex := 0
            clampCount := layoutClamps rd % 2 ^ 32 }
        ru := rosterTaken rd s.sc.u s.ru
        pu := newPU rd
        sc :=
          { s.sc with
            rollover := layoutField rd 0x20 2 0 1439 180, stepLimit := layoutField rd 0x22 2 500 30000 3000 }
        wc := newWC rd s.sc.u s.wc
        fu := newFU rd inputs s.fu
        cq := newCQ rd s.cq } := by
  have rollover : pRollover.value rd = layoutField rd 0x20 2 0 1439 180 := Param.value_eq (by decide) rd
  have limit : pStepLimit.value rd = layoutField rd 0x22 2 500 30000 3000 := Param.value_eq (by decide) rd
  rw [← newRU_eq, ← rollover, ← limit]
  rfl

/-- The application of a layout that passes every check: the first work, on what every block has taken, and the arbiter's
choice. -/
theorem exec_layoutReadComplete {s : State} {r : MemReq} (inputs : LineInputs) (h : awaited .layoutRead r s)
    (unstopped : s.xp.stopRequested = false) (sound : checkLayout (layoutAt s.mem r.addr) = none) :
    exec (.layoutReadComplete inputs) s =
      .next (releaseLink (firstWork (takeLayout (layoutAt s.mem r.addr) inputs s))) := by
  have run : (firstWork (takeLayout (layoutAt s.mem r.addr) inputs s)).xp.run = .running := by
    rw [firstWork_eq, (requestFrame_port _).1, (clockRecords_frame _).2.2.2.2.1, (baselines_pu _ _).1]
    rfl
  have returned : layoutReturned (layoutAt s.mem r.addr) inputs s =
      firstWork (takeLayout (layoutAt s.mem r.addr) inputs s) := by
    simp [layoutReturned, unstopped, sound]
  refine congrArg _ ((complete_awaited h).trans ?_)
  rw [returned, advanceStop_of_ne (by simp [run])]

/-! ### The clock records of the first work (R121) -/

/-- In a layout that passes its checks no two panels share a lane and an address (R106). -/
theorem newPanels_distinct {rd : LayoutReader} (sound : checkLayout rd = none) {u : Nat} {p q : Panel}
    (hp : p ∈ (List.range (panelCountOf rd)).map (newPanel rd u))
    (hq : q ∈ (List.range (panelCountOf rd)).map (newPanel rd u)) (lane : q.lane = p.lane) (addr : q.addr = p.addr) :
    q = p := by
  have earlier : ∀ i j, i < j → j < panelCountOf rd → panelLaneOf rd i = panelLaneOf rd j →
      panelAddrOf rd i ≠ panelAddrOf rd j := by
    intro i j lt hj lane addr
    have repeated := (checkLayout_panels sound hj).1
    rw [repeatedPlace, List.any_eq_false] at repeated
    exact repeated i (List.mem_range.2 lt) (by simp [lane, addr])
  obtain ⟨i, hi, rfl⟩ := List.mem_map.1 hp
  obtain ⟨j, hj, rfl⟩ := List.mem_map.1 hq
  rw [List.mem_range] at hi hj
  rcases Nat.lt_trichotomy i j with lt | rfl | lt
  · exact absurd addr.symm (earlier i j lt hj lane.symm)
  · rfl
  · exact absurd addr (earlier j i lt hi lane)

/-- The text of a clock record (R121). -/
def clockText (c : SC) (seconds : Bool) : List Byte :=
  if c.clock = .unset then unsetClockText
  else if seconds then hhmmss (wallTime c.rollover c.t)
  else hhmm (wallTime c.rollover c.t / 60000)

theorem clockRecords_eq (s : State) :
    clockRecords s = handClocks (clockText s.sc) (decide (s.sc.clock = .holdover)) s := rfl

/-- After the first work each clock panel's record is with its lane. -/
theorem firstClock_held {s : State} {p : Panel} {seconds : Bool}
    (distinct : ∀ p ∈ s.wc.panels, ∀ q ∈ s.wc.panels, q.lane = p.lane → q.addr = p.addr → q = p)
    (mem : p ∈ (requestFrame (clockRecords s)).wc.panels) (kind : p.kind = .clock seconds)
    (hn : p.lane < s.fu.lanes.length) :
    ClockHeld p.lane ⟨p.addr, clockText s.sc seconds, decide (s.sc.clock = .holdover)⟩
      (requestFrame (clockRecords s)) := by
  have frame := requestFrame_frameWork (clockRecords s)
  obtain ⟨q, hq, same⟩ : ∃ q ∈ s.wc.panels, q.place = p.place := by
    rw [← List.mem_map, ← (clockRecords_work s).places, ← frame.places]
    exact List.mem_map_of_mem mem
  obtain ⟨k, l, a⟩ : q.kind = p.kind ∧ q.lane = p.lane ∧ q.addr = p.addr := by simpa [Panel.place] using same
  refine frame.held _ _ ?_
  rw [← l, ← a, clockRecords_eq]
  refine handClocks_held hq (k.trans kind) (by rw [l]; exact hn) fun o ho b ok lane addr => ?_
  obtain rfl := distinct q hq o ho lane addr
  rw [k.trans kind] at ok
  rw [PanelKind.clock.inj ok]

/-! ### What the first work leaves -/

theorem baselines_frame (n : Nat) (s : State) :
    (baselines n s).ru = s.ru ∧ (baselines n s).sc = s.sc ∧ (baselines n s).wc = s.wc ∧ (baselines n s).fu = s.fu ∧
    (baselines n s).xp = s.xp ∧ (baselines n s).mem = s.mem := by
  rw [(baselines_pu n s).1]
  simp

/-- The first work leaves the run state, ATTN, the start fault and the clamp count. -/
theorem firstWork_port (s : State) :
    (releaseLink (firstWork s)).xp.run = s.xp.run ∧ (releaseLink (firstWork s)).xp.attn = s.xp.attn ∧
    (releaseLink (firstWork s)).xp.faultCode = s.xp.faultCode ∧
    (releaseLink (firstWork s)).xp.faultIndex = s.xp.faultIndex ∧
    (releaseLink (firstWork s)).xp.clampCount = s.xp.clampCount := by
  simp [firstWork_eq, baselines_frame]

/-- Of the blocks that are not the Wall Composer's work, the first work changes the Platform Unit by its baselines and the
lanes. -/
theorem firstWork_blocks (s : State) :
    (releaseLink (firstWork s)).mem = s.mem ∧ (releaseLink (firstWork s)).ru = s.ru ∧
    (releaseLink (firstWork s)).sc = s.sc ∧
    (releaseLink (firstWork s)).pu = (baselines s.pu.platformCount s).pu ∧
    (releaseLink (firstWork s)).fu = { s.fu with lanes := (releaseLink (firstWork s)).fu.lanes } := by
  have fu : (firstWork s).fu = { s.fu with lanes := (firstWork s).fu.lanes } := by
    rw [firstWork_eq, (requestFrame_frameWork _).fu, (clockRecords_work _).fu, (baselines_frame _ s).2.2.2.1]
  refine ⟨?_, ?_, ?_, ?_, fu⟩ <;> simp [firstWork_eq, baselines_frame]

/-- With no frame in flight the first work starts the first frame. -/
theorem firstWork_starts {s : State} (run : s.xp.run = .running) (idle : s.wc.frame = none)
    (unwanted : s.wc.frameWanted = false) :
    (releaseLink (firstWork s)).wc.framesStarted = (s.wc.framesStarted + 1) % 2 ^ 32 ∧
      (releaseLink (firstWork s)).wc.lastSnapshot = some s.sc.u := by
  obtain ⟨ru, sc, wc, fu, xp, mem⟩ := baselines_frame s.pu.platformCount s
  have work := (clockRecords_work (baselines s.pu.platformCount s)).wc
  rw [wc] at work
  have begun := requestFrame_starts (s := clockRecords (baselines s.pu.platformCount s))
    (by rw [(clockRecords_frame _).2.2.2.2.1, xp, run]) (by rw [work]; exact idle) (by rw [work]; exact unwanted)
  rw [work, (clockRecords_frame _).2.2.1, sc, ← firstWork_eq] at begun
  exact begun

/-! ### The statement -/

/-- Settles O21: what each block takes is read off `takeLayout_eq` by the lemmas about the blocks; the baselines, the
clock records and the first frame follow. -/
theorem layoutIsApplied : Obligations.LayoutIsApplied := by
  unfold Obligations.LayoutIsApplied
  rintro s r levels driven rd rfl h - unstopped sound
  have taken := takeLayout_eq (layoutAt s.mem r.addr) ⟨levels, driven⟩ s
  have run := exec_layoutReadComplete ⟨levels, driven⟩ h unstopped sound
  generalize layoutAt s.mem r.addr = rd at *
  generalize takeLayout rd ⟨levels, driven⟩ s = m at *
  obtain ⟨based, baseCount⟩ := baselines_pu m.pu.platformCount m
  obtain ⟨-, bsc, bwc, bfu, -, -⟩ := baselines_frame m.pu.platformCount m
  obtain ⟨running, attn, code, index, clamps⟩ := firstWork_port m
  obtain ⟨mem, ru, sc, pu, fu⟩ := firstWork_blocks m
  have mxp : m.xp = { s.xp with
      run := .running, attn := s.xp.attn ||| 64#7, faultCode := 0, faultIndex := 0
      clampCount := layoutClamps rd % 2 ^ 32 } := by rw [taken]
  have mru : m.ru = rosterTaken rd s.sc.u s.ru := by rw [taken]
  have mpu : m.pu = newPU rd := by rw [taken]
  have mwc : m.wc = newWC rd s.sc.u s.wc := by rw [taken]
  have mfu : m.fu = newFU rd ⟨levels, driven⟩ s.fu := by rw [taken]
  have mcq : m.cq = newCQ rd s.cq := by rw [taken]
  have time : m.sc.u = s.sc.u ∧ m.sc.t = s.sc.t ∧ m.sc.clock = s.sc.clock := by rw [taken]; exact ⟨rfl, rfl, rfl⟩
  have mmem : m.mem = s.mem := by rw [taken]
  have count : m.pu.platformCount = rd 0x06 1 := by rw [mpu]; rfl
  refine ⟨m, baselines m.pu.platformCount m, firstWork m, _, run, ?whole, ?composer, ?cues, by rw [mfu]; rfl,
    by rw [mfu]; rfl, by simp [mfu, newFU], by simp [mfu, newFU], fun i old hi => ?line, fun k old hk => ?dim, based,
    baseCount.trans count, fun p pos le => ?platform, rfl, rfl, running.trans (by rw [mxp]), attn.trans (by rw [mxp]),
    code.trans (by rw [mxp]), index.trans (by rw [mxp]), clamps.trans (by rw [mxp]), mem.trans mmem, ru, sc, pu, fu,
    fun d hd => ?roster, fun p seconds hp kind hn => ?clock, fun idle unwanted => ?frame⟩
  case whole => exact taken.trans (by rw [mpu, mwc, mfu, mcq])
  case composer => rw [mwc]; exact newWC_takes rd _ _
  case cues => rw [mcq]; exact newCQ_takes sound _
  case line => rw [mfu]; exact newFU_line_spec rd ⟨levels, driven⟩ hi
  case dim => rw [mfu]; exact newFU_dim_spec rd ⟨levels, driven⟩ hk
  case platform => rw [count, baselines_newPU mpu pos le, time.1]
  case roster =>
    rw [ru, mru] at hd
    obtain ⟨e, -, rfl⟩ := List.mem_map.1 hd
    rw [pu, baseCount, count]
    exact restarted_inService
  case clock =>
    have distinct : ∀ p ∈ (baselines m.pu.platformCount m).wc.panels, ∀ q ∈ (baselines m.pu.platformCount m).wc.panels,
        q.lane = p.lane → q.addr = p.addr → q = p := by
      rw [bwc, mwc]
      exact fun p hp q hq => newPanels_distinct sound hp hq
    obtain ⟨l, hl, has⟩ := firstClock_held distinct hp kind (by rw [bfu, mfu]; simpa [newFU] using hn)
    refine ⟨l, hl, _, has, rfl, ?_, ?_⟩ <;> rw [bsc]
    · rw [time.2.2]
    · rw [clockText, time.2.1, time.2.2]
  case frame =>
    rw [← time.1, show s.wc.framesStarted = m.wc.framesStarted by rw [mwc]; rfl]
    exact firstWork_starts (by rw [mxp]) (by rw [mwc]; exact idle) (by rw [mwc]; exact unwanted)

end Sys2Proof.Machine


/-! SUPPORT. What the STOPPING sequence leaves as it is when it goes on behind the end of a memory request: the port but for
ATTN and the publication, the names, and what the cue pages of the part do not hold (R126, R165, R184). -/

namespace Sys2Proof.Machine

open Sys2Proof.Safety

/-! ### The Exchange Port -/

@[simp] theorem pageStep_port (s : State) :
    (pageStep s).xp.attn = s.xp.attn ∧ (pageStep s).xp.faultArea = s.xp.faultArea ∧
    (pageStep s).xp.faultAddr = s.xp.faultAddr ∧ (pageStep s).xp.sheet = s.xp.sheet := by
  unfold pageStep
  split
  · split
    · simp
    · split <;> simp
  · simp

@[simp] theorem laneStep_port (s : State) :
    (laneStep s).xp.faultArea = s.xp.faultArea ∧ (laneStep s).xp.faultAddr = s.xp.faultAddr ∧
    (laneStep s).xp.sheet = s.xp.sheet := by
  unfold laneStep
  split
  · rw [enterStopped_eq]
    split <;> simp [stoppedState]
  · simp

@[simp] theorem advanceStop_port (s : State) :
    (advanceStop s).xp.faultArea = s.xp.faultArea ∧ (advanceStop s).xp.faultAddr = s.xp.faultAddr ∧
    (advanceStop s).xp.sheet = s.xp.sheet := by
  unfold advanceStop
  split <;> simp

/-- A flag that is raised, or that another event adds to, is set (R175). -/
theorem getLsbD_or_of_left {x y : BitVec 7} {i : Nat} (h : x.getLsbD i = true) : (x ||| y).getLsbD i = true := by
  simp [h]

/-- The STOPPING sequence takes back no flag of ATTN: at its end it adds RUN_STATE. -/
theorem advanceStop_attn {s : State} {i : Nat} (h : s.xp.attn.getLsbD i = true) :
    (advanceStop s).xp.attn.getLsbD i = true := by
  unfold advanceStop
  split
  · have before : (pageStep (frameStep (sheetStep s))).xp.attn = s.xp.attn := by simp
    unfold laneStep
    split
    · obtain ⟨-, -, attn, -⟩ := enterStopped_spec (pageStep (frameStep (sheetStep s)))
      rw [attn, before]
      exact getLsbD_or_of_left h
    · rw [before]; exact h
  · exact h

/-! ### The Wall Composer -/

theorem handBlanks_work (s : State) : LaneWork s (handBlanks s) :=
  LaneWork.trans (LaneWork.foldl (fun t _ => .foldl (fun t _ => handRecord_work _ _ t) _ t) _ s)
    (.foldl (handPanel_work _ _) _ _)

theorem pageStep_wc (s : State) : (pageStep s).wc = { s.wc with panels := (pageStep s).wc.panels } := by
  unfold pageStep
  split
  · split
    · exact (handBlanks_work (enterStage .lane s)).wc
    · split <;> simp
  · rfl

/-- Of the Wall Composer the STOPPING sequence changes the sent images alone, as its blank rows are accepted (R126). -/
theorem advanceStop_wc (s : State) : (advanceStop s).wc = { s.wc with panels := (advanceStop s).wc.panels } := by
  unfold advanceStop
  split
  · have page := pageStep_wc (frameStep (sheetStep s))
    have before : (frameStep (sheetStep s)).wc = s.wc := by simp
    rwa [before, ← (laneStep_frame (pageStep _)).2.2.1] at page
  · rfl

/-! ### The Cue Sequencer -/

theorem beginClose_cq (c : CloseCauses) (s : State) :
    (beginClose c s).cq =
      { s.cq with
        openPage := (beginClose c s).cq.openPage, dropped := (beginClose c s).cq.dropped
        superseded := (beginClose c s).cq.superseded } := by
  unfold beginClose
  split <;> simp

theorem frameStep_cq (s : State) : (frameStep s).cq = { s.cq with attempt := (frameStep s).cq.attempt } := by
  unfold frameStep
  split <;> rfl

/-- The page step closes the open page with the counts it takes, and touches nothing else of the Cue Sequencer. -/
theorem pageStep_cq (s : State) :
    (pageStep s).cq =
      { s.cq with
        openPage := (pageStep s).cq.openPage, dropped := (pageStep s).cq.dropped
        superseded := (pageStep s).cq.superseded } := by
  unfold pageStep
  split
  · split
    · simp
    · split
      · exact beginClose_cq _ s
      · rfl
  · rfl

/-- With no page open the page step has none to close. -/
theorem pageStep_cq_of_no_page {s : State} (page : s.cq.openPage = none) : (pageStep s).cq = s.cq := by
  unfold pageStep
  split
  · simp [page]
  · rfl

/-- The STOPPING sequence abandons a retry time and closes the open page; the write in progress, the cursor and the tallies
are not its own. -/
theorem advanceStop_cq (s : State) :
    (advanceStop s).cq =
      { s.cq with
        attempt := (advanceStop s).cq.attempt, openPage := (advanceStop s).cq.openPage
        dropped := (advanceStop s).cq.dropped, superseded := (advanceStop s).cq.superseded } := by
  unfold advanceStop
  split
  · rw [(laneStep_frame _).2.2.2.2.1, pageStep_cq, frameStep_cq, (sheetStep_frame s).2.2.2.2.2.1]
  · rfl

/-- With no page open the STOPPING sequence at most abandons a retry time. -/
theorem advanceStop_cq_of_no_page {s : State} (page : s.cq.openPage = none) :
    (advanceStop s).cq = { s.cq with attempt := (advanceStop s).cq.attempt } := by
  unfold advanceStop
  split
  · have closed : (frameStep (sheetStep s)).cq.openPage = none := by
      rw [frameStep_cq, (sheetStep_frame s).2.2.2.2.2.1]; exact page
    rw [(laneStep_frame _).2.2.2.2.1, pageStep_cq_of_no_page closed, frameStep_cq, (sheetStep_frame s).2.2.2.2.2.1]
  · rfl

end Sys2Proof.Machine


/-! PROOF of what a sheet that fails leaves, and of the end of its flight: the result, DONE and the next take (R74, R93,
R174). -/

namespace Sys2Proof.Machine

open Sys2Proof.Safety

/-! ### The requests of a flight (R174) -/

/-- The request of a step of R174 is made while the one before it is still on the link, and is there behind its end. -/
theorem sheetRequest_done {s : State} {g : InFlight} (busy : s.xp.inFlight = some g) (j : SheetJob) (r : MemReq) :
    (releaseLink (advanceStop (sheetRequest j r s))).xp.sheet = some j ∧
      requested r (releaseLink (advanceStop (sheetRequest j r s))) := by
  have made : sheetRequest j r s = { s with xp := { s.xp with sheet := some j, waiting := s.xp.waiting ++ [r] } } :=
    request_busy (s := s.onXp fun x => { x with sheet := some j }) busy
  refine ⟨by simp [made], requested_complete (f := g) ?_ ?_⟩ <;> simp [made, busy]

/-- The command that brings an answer which the request on the link awaits: the block acts, the STOPPING sequence goes on,
and the arbiter chooses. -/
theorem exec_of_awaited {c : Instr} {a : Access} {act : MemReq → State → State} {r : MemReq} {s : State}
    (command : exec c s = .next (complete a act s)) (h : awaited a r s) :
    exec c s = .next (releaseLink (advanceStop (act r s))) := by
  rw [command, complete_awaited h]

/-- What a block does at an answer shows behind the arbiter's choice, but for the port, outside STOPPING. -/
theorem releaseLink_advanceStop_of_ne {s : State} (run : s.xp.run ≠ .stopping) :
    releaseLink (advanceStop s) = { s with xp := (releaseLink s).xp } := by
  rw [advanceStop_of_ne run]
  rfl

/-- The result fields fill bytes 16 to 31 of the slot (R189). -/
theorem resultBytes_length (r : SheetResult) : (resultBytes r).length = 16 := by
  simp [resultBytes, optionalBytes, leBytes_length]

/-! ### A sheet that fails (R93) -/

/-- What the port answers for a sheet that fails: the code, the index and the clamps, the generation as it stands, and no
cue (R74). -/
def failureResult (f : SheetFailure) (generation : Nat) : SheetResult :=
  ⟨f.code, f.index, f.clamps, generation, none, 0⟩

theorem applySheet_of_error {h : SheetHeader} {units : Option (List Byte)} {s : State} {f : SheetFailure}
    (fails : judgeSheet h units s = .error f) : applySheet h units s = s := by
  simp [applySheet, fails]

theorem sheetResult_of_error {h : SheetHeader} {units : Option (List Byte)} {s : State} {f : SheetFailure}
    (fails : judgeSheet h units s = .error f) : sheetResult h units s = failureResult f s.ru.generation := by
  simp [sheetResult, fails, failureResult]

/-- The fetch completion of a sheet that fails asks for the write of its result and does nothing else. -/
theorem fetchCompleted_of_error {s : State} {j : SheetJob} {units : Option (List Byte)} {f : SheetFailure}
    (job : s.xp.sheet = some j) (fails : judgeSheet j.header units s = .error f) :
    fetchCompleted units s =
      sheetRequest { j with phase := .resultWrite }
        ⟨.resultWrite, linkAddr (s.xp.xbase.toNat * 65536 + 0x2000 + 1024 * j.slot + 16), 16,
          resultBytes (failureResult f s.ru.generation)⟩ s := by
  simp [fetchCompleted, job, applySheet_of_error fails, sheetResult_of_error fails, writeReq, resultBytes_length,
    slotAddr, areaBase]

/-- Settles O13: a failed sheet only asks for the write of its result, and the STOPPING sequence has no part in a record. -/
theorem abortedSheetChangesNothing : Obligations.AbortedSheetChangesNothing := by
  unfold Obligations.AbortedSheetChangesNothing
  intro s r j f h job fails
  have ⟨g, busy, _⟩ := h
  have ends := exec_of_awaited (c := .fetchCompletion) rfl h
  rw [onData, fetchCompleted_of_error job fails] at ends
  obtain ⟨sheet, made⟩ := sheetRequest_done busy _ _
  refine ⟨_, ends, ?ru, ?sc, ?mem, fun run => ?_, sheet, _, made, rfl⟩
  case ru => simp
  case sc => simp
  case mem => simp
  rw [releaseLink_advanceStop_of_ne (by simpa [sheetRequest] using run)]
  simp [sheetRequest, request, State.onXp]

/-! ### The end of the flight (R174) -/

/-- With no post waiting, or outside RUNNING, the flight ends and nothing is taken. -/
theorem flightEnds_of_idle {s : State} (idle : s.xp.postQueue = [] ∨ s.xp.run ≠ .running) :
    flightEnds s = s.onXp fun x => { x with sheet := none } := by
  unfold flightEnds tryTake
  split
  · next posts =>
    rw [if_neg]
    rcases idle with empty | run
    · simp [empty] at posts
    · exact run
  · rfl

/-- In RUNNING the head of the post queue is taken and its slot header asked for. -/
theorem flightEnds_of_post {s : State} {n : Nat} {rest : List Nat} (posts : s.xp.postQueue = n :: rest)
    (run : s.xp.run = .running) :
    flightEnds s =
      request ⟨.headerRead, linkAddr (s.xp.xbase.toNat * 65536 + 0x2000 + 1024 * n), 32, []⟩
        (s.onXp fun x => { x with postQueue := rest, sheet := some ⟨n, .headerRead, ⟨0, 0, false, 0⟩⟩ }) := by
  simp [flightEnds, tryTake, posts, run, readReq, slotAddr, areaBase, State.onXp]

@[simp] theorem flightEnds_port (s : State) :
    (flightEnds s).xp.run = s.xp.run ∧ (flightEnds s).xp.attn = s.xp.attn ∧
    (flightEnds s).xp.faultArea = s.xp.faultArea ∧ (flightEnds s).xp.faultAddr = s.xp.faultAddr := by
  unfold flightEnds tryTake
  split
  · split <;> simp
  · simp

/-- Behind the end of a flight no sheet is in flight, or the next post is taken. -/
theorem flightEnds_done {s : State} {g : InFlight} (busy : s.xp.inFlight = some g) :
    (s.xp.postQueue = [] ∨ s.xp.run ≠ .running → (releaseLink (advanceStop (flightEnds s))).xp.sheet = none) ∧
    ∀ n rest, s.xp.postQueue = n :: rest → s.xp.run = .running →
      (releaseLink (advanceStop (flightEnds s))).xp.postQueue = rest ∧
      requested ⟨.headerRead, linkAddr (s.xp.xbase.toNat * 65536 + 0x2000 + 1024 * n), 32, []⟩
        (releaseLink (advanceStop (flightEnds s))) := by
  refine ⟨fun idle => by simp [flightEnds_of_idle idle], fun n rest posts run => ?_⟩
  have running : (flightEnds s).xp.run ≠ .stopping := by simp [run]
  rw [advanceStop_of_ne running, flightEnds_of_post posts run]
  refine ⟨by simp, requested_releaseLink ?_⟩
  rw [request_busy (f := g) (by simpa using busy)]
  simp

/-- Settles O17: the DONE write follows the result's, and its end is the end of the flight. -/
theorem resultThenDone : Obligations.ResultThenDone := by
  unfold Obligations.ResultThenDone
  intro s r j job
  refine ⟨fun h => ?_, fun h => ?_⟩ <;> have ⟨g, busy, _⟩ := h
  · have written : resultWritten (landWrite r s) =
        sheetRequest { j with phase := .doneWrite }
          ⟨.doneWrite, linkAddr (s.xp.xbase.toNat * 65536 + 0x2000 + 1024 * j.slot), 4, leBytes 4 3⟩ (landWrite r s) := by
      simp [resultWritten, job, writeReq, slotAddr, areaBase, leBytes_length]
    obtain ⟨sheet, made⟩ := sheetRequest_done (s := landWrite r s) busy { j with phase := .doneWrite }
      ⟨.doneWrite, linkAddr (s.xp.xbase.toNat * 65536 + 0x2000 + 1024 * j.slot), 4, leBytes 4 3⟩
    have ends := exec_of_awaited (c := .resultWriteComplete) rfl h
    rw [onLanded, written] at ends
    refine ⟨_, ends, ?mem, ?ru, sheet, made⟩
    case mem => simp
    case ru => simp
  · obtain ⟨idle, next⟩ := flightEnds_done (s := raiseAttn .sheetDone (landWrite r s)) busy
    refine ⟨_, exec_of_awaited (c := .doneWriteComplete) rfl h, ?mem, ?ru, ?sc, ?done, idle, next⟩
    case mem => simp [onLanded]
    case ru => simp [onLanded]
    case sc => simp [onLanded]
    case done =>
      rw [(releaseLink_port _).2.2.1]
      exact advanceStop_attn (by simp [onLanded, doneWritten, raiseAttn, AttnFlag.bit])

/-! ### The order of the checks (R76 to R80, R90) -/

/-- The checks behind the guard: the entries in sheet order, and the final checks (R80, R90). -/
def judgeEntries (es : List Entry) (s : State) : Except SheetFailure Work :=
  match applyEntries s 0 es (Work.of s.ru) with
  | .error f => .error f
  | .ok w =>
    match finalChecks w with
    | some c => .error ⟨c, 255, w.clamps⟩
    | none => .ok w

/-- The judgement of a sheet of correct structure: the day stamp, the guard, and then the entries. -/
theorem judgeSheet_of_structure {h : SheetHeader} {bs : List Byte} {es : List Entry}
    (sound : checkStructure h.unitCount bs = .ok es) (s : State) :
    judgeSheet h (some bs) s =
      if h.dayStamp ≠ 0xFFFF ∧ h.dayStamp ≠ s.sc.day then .error ⟨.staleDay, 255, 0⟩
      else if h.guard = true ∧ h.expected ≠ s.ru.generation then .error ⟨.changed, 255, 0⟩
      else judgeEntries es s := by
  simp only [judgeSheet, sound]
  rfl

/-- An amendment fails with UNKNOWN_DEPARTURE or TOO_LATE. -/
theorem amend_error {w : Work} {id : Nat} {f : WorkDep → Work} {c : Code} (h : amend w id f = .error c) :
    5 ≤ c.number := by
  unfold amend at h
  split at h
  · cases h; decide
  · split at h
    · cases h; decide
    · cases h

/-- An entry fails with a code of its own: none of the codes before BAD_VALUE. -/
theorem applyEntry_error {s : State} {i : Nat} {e : Entry} {w : Work} {c : Code} (h : applyEntry s i e w = .error c) :
    5 ≤ c.number := by
  cases e with
  | add id sched kind quiet given dest platform delay label =>
    simp only [applyEntry, applyAdd] at h
    split_ifs at h <;> cases h <;> decide
  | setCalls | setDelay | setPlatform | cancel =>
    simp only [applyEntry, applySetCalls, applySetDelay, applySetPlatform, applyCancel] at h
    split at h
    · cases h; decide
    · exact amend_error h
  | reinstate | withdraw =>
    simp only [applyEntry, applyReinstate, applyWithdraw] at h
    split at h <;> cases h; decide
  | clearRoster => cases h
  | postNotice =>
    simp only [applyEntry, applyPostNotice] at h
    split at h
    · cases h; decide
    · split_ifs at h <;> cases h <;> decide
  | endNotice | closure | restoreContact | setTime | flushNames =>
    simp only [applyEntry, applyEndNotice, applyClosure, applyRestore, applySetTime, applyFlush] at h
    split_ifs at h; cases h; decide

/-- The first entry that fails gives the sheet its code. -/
theorem applyEntries_error {s : State} {es : List Entry} {i : Nat} {w : Work} {f : SheetFailure}
    (h : applyEntries s i es w = .error f) : 5 ≤ f.code.number := by
  induction es generalizing i w with
  | nil => cases h
  | cons e es ih =>
    unfold applyEntries at h
    split at h
    · exact ih h
    · next c hc => cases h; exact applyEntry_error hc

/-- The final checks fail with one of the last three codes (R90). -/
theorem finalChecks_some {w : Work} {c : Code} (h : finalChecks w = some c) : 10 ≤ c.number := by
  unfold finalChecks at h
  split_ifs at h <;> cases h <;> decide

/-- Behind the guard a sheet fails with a code of 5 or more. -/
theorem judgeEntries_error {es : List Entry} {s : State} {f : SheetFailure} (h : judgeEntries es s = .error f) :
    5 ≤ f.code.number := by
  unfold judgeEntries at h
  split at h
  · next hf => cases h; exact applyEntries_error hf
  · split at h
    · next hc => cases h; exact Nat.le_trans (by decide) (finalChecks_some hc)
    · cases h

/-- Settles O18: the judgement is written out for a sheet of correct structure, and the codes of what follows the guard are
those of the entries and the final checks. -/
theorem dayStampAndGuard : Obligations.DayStampAndGuard := by
  unfold Obligations.DayStampAndGuard
  intro s h bs es sound
  have judged := judgeSheet_of_structure sound s
  refine ⟨fun set other => ?_, fun day guard other => ?_, fun clear n => ?_, fun day guard f fails => ?_⟩
  · have stale : judgeSheet h (some bs) s = .error ⟨.staleDay, 255, 0⟩ := by rw [judged, if_pos ⟨set, other⟩]
    exact ⟨sheetResult_of_error stale, applySheet_of_error stale⟩
  · have changed : judgeSheet h (some bs) s = .error ⟨.changed, 255, 0⟩ := by
      rw [judged, if_neg (by tauto), if_pos ⟨guard, other⟩]
    exact ⟨sheetResult_of_error changed, applySheet_of_error changed⟩
  · rw [judged, judgeSheet_of_structure (h := { h with expected := n }) sound s]
    simp only [clear, Bool.false_eq_true, false_and, if_false]
  · rw [judged, if_neg (by tauto), if_neg (by cases guard <;> simp_all)] at fails
    exact judgeEntries_error fails

end Sys2Proof.Machine


/-! PROOF of what a memory fault does: what the port records, what a failed write leaves, and what each block makes of the
failure of its request (R177). -/

namespace Sys2Proof.Machine

open Sys2Proof.Safety

/-! ### What a failed write leaves in memory (log 6) -/

/-- A write that met a fault leaves every address that none of its bytes stands at. -/
theorem read_writeFaulted_other {m : List Host.Cell} (w : Memory.wf m = true) (n a k : Nat) (bs : List Byte)
    (h : ∀ i < bs.length, k ≠ linkAddr (a + i)) : Memory.read (Memory.writeFaulted n m a bs) k = Memory.read m k := by
  induction bs generalizing m a with
  | nil => rfl
  | cons b bs ih =>
    have tail : ∀ i < bs.length, k ≠ linkAddr (a + 1 + i) := fun i hi => by
      rw [Nat.add_right_comm]; exact h (i + 1) (Nat.succ_lt_succ hi)
    unfold Memory.writeFaulted
    split
    · exact (ih (write_wfFrom b (Nat.zero_le _) (linkAddr_lt a) w) (a + 1) tail).trans
        (read_write_other b (h 0 (Nat.succ_pos _)) w)
    · exact ih w (a + 1) tail

/-- A failed write, of a state word or of anything else, changes at most its own bytes. -/
theorem read_landFaulted_other {s : State} (w : Memory.wf s.mem = true) (r : MemReq) {k : Nat}
    (h : ∀ i < r.data.length, k ≠ linkAddr (r.addr + i)) :
    Memory.read (landFaulted r s).mem k = Memory.read s.mem k := by
  unfold landFaulted
  dsimp only
  split_ifs
  · exact read_writeBytes_other w r.addr k r.data h
  · rfl
  · exact read_writeFaulted_other w _ r.addr k r.data h

/-! ### What the port does at a fault (R177) -/

/-- The state that the block is told of the failure in: what the write left, and the fault recorded. -/
def faulted (f : InFlight) (s : State) : State :=
  recordFault f.req (if f.req.access.mayLand then landFaulted f.req s else s)

theorem requestFailed_eq (f : InFlight) (s : State) :
    requestFailed f s = releaseLink (advanceStop (accessFailed f.req.access (faulted f s))) := rfl

theorem exec_memoryFault {f : InFlight} {s : State} (h : s.xp.inFlight = some f) :
    exec .memoryFault s = .next (requestFailed f s) := by
  have fault : linkFault s = requestFailed f s := by simp [linkFault, h]
  exact congrArg Host.Outcome.next fault

/-- The request on the link times out 50 ms after it started. -/
theorem timedOut_iff {f : InFlight} {s : State} (h : s.xp.inFlight = some f) :
    timedOut s = true ↔ f.since + 50 ≤ s.sc.u := by
  rw [timedOut, h]
  exact decide_eq_true_iff

theorem faulted_xp (f : InFlight) (s : State) :
    (faulted f s).xp =
      { s.xp with
        attn := s.xp.attn ||| 32#7, faultArea := some f.req.access.cls, faultAddr := f.req.addr } := by
  unfold faulted
  split <;> rfl

@[simp] theorem faulted_frame (f : InFlight) (s : State) :
    (faulted f s).ru = s.ru ∧ (faulted f s).sc = s.sc ∧ (faulted f s).wc = s.wc ∧ (faulted f s).cq = s.cq := by
  unfold faulted
  split <;> simp

/-- What a fault leaves in memory is what its write left. -/
theorem requestFailed_mem_of_mayLand {f : InFlight} (h : f.req.access.mayLand = true) (s : State) :
    (requestFailed f s).mem = (landFaulted f.req s).mem := by
  simp [requestFailed, h]

theorem requestFailed_read_other {f : InFlight} {s : State} (w : Memory.wf s.mem = true) {k : Nat}
    (h : ∀ i < f.req.data.length, k ≠ linkAddr (f.req.addr + i)) :
    Memory.read (requestFailed f s).mem k = Memory.read s.mem k := by
  cases lands : f.req.access.mayLand with
  | false => rw [requestFailed_mem lands]
  | true => rw [requestFailed_mem_of_mayLand lands]; exact read_landFaulted_other w f.req h

/-- A failed write of a state word other than DONE leaves its old value or the whole new one (R164, R186). -/
theorem requestFailed_stateWord {f : InFlight}
    (h : f.req.access = .takenWrite ∨ f.req.access = .openWrite ∨ f.req.access = .closedWrite) (s : State) :
    (requestFailed f s).mem = s.mem ∨ (requestFailed f s).mem = Memory.writeBytes s.mem f.req.addr f.req.data := by
  have lands : f.req.access.mayLand = true ∧ f.req.access.isStateWord = true := by
    rcases h with e | e | e <;> rw [e] <;> decide
  rw [requestFailed_mem_of_mayLand lands.1]
  exact landFaulted_stateWord lands.2 s

/-! ### Which block is told (the table of R177) -/

section
variable {a : Access} (s : State)

theorem accessFailed_fetch (h : a = .headerRead ∨ a = .takenWrite ∨ a = .unitRead) :
    accessFailed a s = fetchCompleted none s := by
  rcases h with rfl | rfl | rfl <;> rfl

theorem accessFailed_flight (h : a = .resultWrite ∨ a = .doneWrite) : accessFailed a s = flightEnds s := by
  rcases h with rfl | rfl <;> rfl

theorem accessFailed_page (h : a.cls = .page) (word : a ≠ .stateWordRead) : accessFailed a s = pageWriteFault s := by
  cases a with
  | stateWordRead => exact absurd rfl word
  | openWrite | recordWrite | pageHeaderWrite | closedWrite => rfl
  | _ => cases h

theorem accessFailed_tally (h : a.cls = .tally) : accessFailed a s = tallyFailed s := by
  cases a <;> cases h <;> rfl

theorem accessFailed_name (h : a.cls = .name) : accessFailed a s = nameAnswered none s := by
  cases a <;> cases h; rfl

theorem accessFailed_status (h : a.cls = .status) : accessFailed a s = publicationFailed s := by
  cases a <;> cases h <;> rfl

theorem accessFailed_layout (h : a.cls = .layout) : accessFailed a s = layoutFailed s := by
  cases a <;> cases h; rfl

end

/-! ### The Exchange Port: sheets (R73, R74) -/

/-- A failed fetch fails the sheet. -/
theorem fetchCompleted_none {s : State} {j : SheetJob} (job : s.xp.sheet = some j) :
    fetchCompleted none s =
      sheetRequest { j with phase := .resultWrite }
        ⟨.resultWrite, linkAddr (s.xp.xbase.toNat * 65536 + 0x2000 + 1024 * j.slot + 16), 16,
          resultBytes (failureResult ⟨.fetchFault, 255, 0⟩ s.ru.generation)⟩ s :=
  fetchCompleted_of_error job rfl

/-- A failed fetch is answered FETCH_FAULT with index 255 (R73). -/
theorem fetchFault_answered {s : State} {j : SheetJob} {g : InFlight} (busy : s.xp.inFlight = some g)
    (job : s.xp.sheet = some j) : answered s (releaseLink (advanceStop (fetchCompleted none s))) j 1 255 := by
  rw [fetchCompleted_none job]
  obtain ⟨sheet, made⟩ := sheetRequest_done busy _ _
  exact ⟨sheet, _, made, rfl⟩

/-! ### What no block does at a failure -/

@[simp] theorem failStart_port (f : StartFault) (s : State) :
    (failStart f s).xp.run = .stopped ∧ (failStart f s).xp.attn = s.xp.attn ||| 64#7 ∧
    (failStart f s).xp.faultCode = f.code ∧ (failStart f s).xp.faultArea = s.xp.faultArea ∧
    (failStart f s).xp.faultAddr = s.xp.faultAddr := by
  simp [failStart, enterRun, raiseAttn, AttnFlag.bit]

/-- The block that is told of a failure changes neither the roster nor the clock, leaves the fault recorded, and takes back
no flag of ATTN. -/
theorem accessFailed_leaves (a : Access) (s : State) :
    (accessFailed a s).ru = s.ru ∧ (accessFailed a s).sc = s.sc ∧
    (accessFailed a s).xp.faultArea = s.xp.faultArea ∧ (accessFailed a s).xp.faultAddr = s.xp.faultAddr ∧
    ∀ i, s.xp.attn.getLsbD i = true → (accessFailed a s).xp.attn.getLsbD i = true := by
  cases a with
  | layoutRead =>
    refine ⟨by simp [accessFailed], by simp [accessFailed], by simp [accessFailed, layoutFailed],
      by simp [accessFailed, layoutFailed], fun i h => ?_⟩
    rw [accessFailed, layoutFailed, (failStart_port _ _).2.1]
    exact getLsbD_or_of_left h
  | headerRead | takenWrite | unitRead =>
    rw [accessFailed_fetch s (by simp)]
    cases job : s.xp.sheet with
    | none => simp [fetchCompleted, job]
    | some j => simp [fetchCompleted_none job, sheetRequest]
  | _ => simp [accessFailed]

/-! ### The Cue Sequencer (R160, R164, R168) -/

theorem tryOpenPage_cq (s : State) : (tryOpenPage s).cq = { s.cq with attempt := (tryOpenPage s).cq.attempt } := by
  unfold tryOpenPage
  split <;> simp

/-- The abandoned page (R164): its cues count as dropped, the counts that its close had taken are given back, and the cursor
goes on. -/
theorem pageWriteFault_cq {s : State} {p : OpenPage} (page : s.cq.openPage = some p) :
    (pageWriteFault s).cq =
      { s.cq with
        cursor := (s.cq.cursor + 1) % 8, openPage := none, writing := none
        dropped := (s.cq.dropped + p.count + (takenCounts p.phase).1) % 2 ^ 32
        superseded := (s.cq.superseded + (takenCounts p.phase).2) % 2 ^ 32
        attempt := (pageWriteFault s).cq.attempt } := by
  have sum : add32 (add32 s.cq.dropped p.count) (takenCounts p.phase).1 =
      (s.cq.dropped + p.count + (takenCounts p.phase).1) % 2 ^ 32 := Nat.mod_add_mod _ _ _
  simp only [pageWriteFault, page]
  rw [tryOpenPage_cq, ← sum]
  rfl

/-- A page fault, behind which the STOPPING sequence finds no page to close. -/
theorem pageFault_done {s : State} {p : OpenPage} (page : s.cq.openPage = some p) :
    (releaseLink (advanceStop (pageWriteFault s))).cq =
      { (pageWriteFault s).cq with attempt := (releaseLink (advanceStop (pageWriteFault s))).cq.attempt } := by
  rw [(releaseLink_frame _).2.2.2.2.2.1]
  exact advanceStop_cq_of_no_page (by rw [pageWriteFault_cq page])

theorem startTally_cq (s : State) : (startTally s).cq = { s.cq with tallyStep := (startTally s).cq.tallyStep } := by
  unfold startTally
  split <;> simp

/-- A failed tally access counts one exception, and its entry leaves the list (R168). -/
theorem tallyFault_done (s : State) :
    (releaseLink (advanceStop (tallyFailed s))).cq.tallyExceptions = (s.cq.tallyExceptions + 1) % 2 ^ 32 ∧
      (releaseLink (advanceStop (tallyFailed s))).cq.tallyList = s.cq.tallyList.drop 1 := by
  rw [(releaseLink_frame _).2.2.2.2.2.1, advanceStop_cq, tallyFailed, endTally, startTally_cq]
  exact ⟨rfl, rfl⟩

/-- Outside STOPPING a failed read of a state word sets a retry 250 ms on (R160). -/
theorem stateWordFailed_cq {s : State} (run : s.xp.run ≠ .stopping) :
    (stateWordFailed s).cq = { s.cq with attempt := some (.retry (s.sc.u + 250)) } := by
  have before : pageStepReached s = false := by simp [pageStepReached, run]
  simp [stateWordFailed, setRetry, before, Config.pageRetryMs]

/-! ### Names (R124) -/

theorem startFetch_cache (s : State) : (startFetch s).wc.cache = s.wc.cache := by
  unfold startFetch
  split <;> simp

theorem startFetch_of_no_miss {s : State} (served : s.wc.misses = []) : startFetch s = s := by
  simp [startFetch, served, nextMiss]

/-- A write that goes on keeps its cue and its names. -/
theorem progressWrite_writing {s : State} {w : CueWrite} (h : s.cq.writing = some w) :
    ∃ b, (progressWrite s).cq.writing = some { w with requested := b } := by
  unfold progressWrite
  split
  · next v p hv hp =>
    obtain rfl := Option.some.inj (hv.symm.trans h)
    split
    · exact ⟨true, by simp⟩
    · exact ⟨v.requested, h⟩
  · exact ⟨w.requested, h⟩

/-- With no frame in flight an answer of the fetcher is the Cue Sequencer's alone. -/
theorem nameAnswered_of_no_frame {s : State} (idle : s.wc.frame = none) (r : Option NameText) :
    nameAnswered r s = progressWrite (nameReturned r s) := by
  have without : (nameReturned r s).wc.frame = none := by
    unfold nameReturned
    split
    · exact idle
    · rw [startFetch_names]; simp [idle]
  have names : progressNames (nameReturned r s) = nameReturned r s := by simp [progressNames, without]
  have frame : progressFrame (nameReturned r s) = nameReturned r s := by simp [progressFrame, frameDone, without]
  rw [nameAnswered, names, frame]

/-- The copy that a failed read gives is delivered to the write that awaits it, and no name is cached. -/
theorem nameReturned_none {s : State} {g : Fetch} (fetch : s.wc.fetch = some g) :
    (nameReturned none s).wc.cache = s.wc.cache ∧
    (s.wc.misses = [] → (nameReturned none s).wc.fetch = none) ∧
    (nameReturned none s).cq =
      { s.cq with
        writing :=
          if g.miss.sequencer then s.cq.writing.map (·.deliver g.miss.idx blankName) else s.cq.writing } := by
  unfold nameReturned
  simp only [fetch]
  refine ⟨by rw [startFetch_cache]; simp, fun served => ?_, by simp⟩
  rw [startFetch_of_no_miss (by simpa using served)]
  simp

/-- A failed name read with no frame in flight: nothing is cached, and a write that awaits the name takes a blank one. -/
theorem nameFault_done {s : State} {g : Fetch} (idle : s.wc.frame = none) (fetch : s.wc.fetch = some g) :
    s.wc.cache = (releaseLink (advanceStop (nameAnswered none s))).wc.cache ∧
    (s.wc.misses = [] → (releaseLink (advanceStop (nameAnswered none s))).wc.fetch = none) ∧
    ∀ w, g.miss.sequencer = true → s.cq.writing = some w → g.miss.idx ∈ w.awaiting →
      ∃ w', (releaseLink (advanceStop (nameAnswered none s))).cq.writing = some w' ∧
        w'.copies = w.copies ++ [(g.miss.idx, ⟨[], [], []⟩)] ∧ w'.awaiting = w.awaiting.filter (· ≠ g.miss.idx) := by
  obtain ⟨cache, last, cq⟩ := nameReturned_none fetch
  rw [nameAnswered_of_no_frame idle, (releaseLink_frame _).2.2.2.1, (releaseLink_frame _).2.2.2.2.2.1, advanceStop_wc,
    advanceStop_cq, (progressWrite_frame _).2.2.2.1]
  refine ⟨cache.symm, last, fun w asked writing awaits => ?_⟩
  have delivered : (nameReturned none s).cq.writing = some (w.deliver g.miss.idx blankName) := by
    simp [cq, asked, writing]
  obtain ⟨b, done⟩ := progressWrite_writing delivered
  refine ⟨_, done, by simp [CueWrite.deliver, awaits, blankName], ?_⟩
  rw [CueWrite.deliver, if_pos awaits]
  exact List.filter_congr fun k _ => by rw [decide_not, bne, beq_eq_decide]

/-! ### The status page (R178) -/

/-- A failed publication goes on to its even count, `n`, and a wanted one begins. -/
theorem publicationFailed_publish {s : State} {p : Publication} {n : Nat} (publication : s.xp.publication = some p)
    (even : n = if p.phase = .even then s.xp.publishCount else (s.xp.publishCount + 1) % 2 ^ 32) :
    (s.xp.publishWanted = false →
      (publicationFailed s).xp.publication = none ∧ (publicationFailed s).xp.publishCount = n) ∧
    (s.xp.publishWanted = true →
      (publicationFailed s).xp.publishWanted = false ∧ (publicationFailed s).xp.publishCount = (n + 1) % 2 ^ 32 ∧
      ∃ q, (publicationFailed s).xp.publication = some q ∧ q.phase = .odd ∧ q.base = s.xp.xbase.toNat * 65536) := by
  have counted : publicationFailed s = endPublication (s.onXp fun x => { x with publishCount := n }) := by
    cases phase : p.phase <;>
      simp only [publicationFailed, publication, even, phase, reduceCtorEq, if_true, if_false] <;> rfl
  rw [counted, endPublication]
  refine ⟨fun unwanted => ?_, fun wanted => ?_⟩
  · simp [unwanted]
  · simp [wanted, beginPublication, count32, areaBase, Config.countModulus]

/-! ### The statement -/

/-- Settles O50: what the port does is the same for every request, and each block's part has its lemma above. -/
theorem memoryFaultsAreRecorded : Obligations.MemoryFaultsAreRecorded := by
  unfold Obligations.MemoryFaultsAreRecorded
  intro s f h
  obtain ⟨ru, sc, wc, cq⟩ := faulted_frame f s
  have xp := faulted_xp f s
  have busy : (faulted f s).xp.inFlight = some f := by rw [xp]; exact h
  obtain ⟨aru, asc, area, addr, attn⟩ := accessFailed_leaves f.req.access (faulted f s)
  refine ⟨⟨requestFailed f s, exec_memoryFault h, ?attn, ?area, ?addr, ?sc, ?ru, ?unlanded,
    fun word => requestFailed_stateWord word s, fun w a off => requestFailed_read_other w fun i hi => off i hi,
    fun j job => ⟨fun fetch => ?fetch, fun flight => ?flight⟩, fun word run => ?word,
    fun page word p hp => ?page, fun tally => ?tally, fun name idle g fetch => ?name,
    fun status run p n hp even => ?status, fun layout => ?layout⟩, fun due => ?due, fun early => ?early⟩
  case attn =>
    rw [requestFailed_eq, (releaseLink_port _).2.2.1]
    exact advanceStop_attn (attn 5 (by simp [xp]))
  case area => simp [requestFailed_eq, area, xp]
  case addr => simp [requestFailed_eq, addr, xp]
  case sc => simp [requestFailed_eq, asc]
  case ru => simp [requestFailed_eq, aru]
  case unlanded =>
    intro read
    exact requestFailed_mem (read.elim mayLand_of_read fun done => done ▸ mayLand_doneWrite) s
  case fetch =>
    have done := fetchFault_answered busy (show (faulted f s).xp.sheet = some j by rw [xp]; exact job)
    rw [requestFailed_eq, accessFailed_fetch _ fetch]
    simpa only [answered, xp] using done
  case flight =>
    obtain ⟨idle, next⟩ := flightEnds_done busy
    rw [requestFailed_eq, accessFailed_flight _ flight]
    simp only [xp] at idle next
    refine ⟨fun run => ?_, idle, next⟩
    rw [advanceStop_of_ne (by simpa [xp] using run)]
    simp [xp]
  case word =>
    have run' : (faulted f s).xp.run ≠ .stopping := by rw [xp]; exact run
    rw [requestFailed_eq, word, accessFailed, advanceStop_of_ne (by simpa using run'), (releaseLink_frame _).2.2.2.2.2.1,
      stateWordFailed_cq run', cq, sc]
  case page =>
    have held : (faulted f s).cq.openPage = some p := by rw [cq]; exact hp
    rw [requestFailed_eq, accessFailed_page _ page word, pageFault_done held, pageWriteFault_cq held, cq]
    refine ⟨rfl, rfl, rfl, fun d k closing => ?_, fun phase => ?_⟩
    · simp [closing, takenCounts]
    · rcases phase with e | e <;> simp [e, takenCounts]
  case tally =>
    obtain ⟨exceptions, list⟩ := tallyFault_done (faulted f s)
    rw [requestFailed_eq, accessFailed_tally _ tally, exceptions, list, cq]
    exact ⟨rfl, rfl⟩
  case name =>
    have done := nameFault_done (s := faulted f s) (by rw [wc]; exact idle) (by rw [wc]; exact fetch)
    rw [wc, cq] at done
    rw [requestFailed_eq, accessFailed_name _ name]
    exact done
  case status =>
    have done := publicationFailed_publish (s := faulted f s) (p := p) (n := n) (by rw [xp]; exact hp)
      (by rw [xp]; exact even)
    rw [requestFailed_eq, accessFailed_status _ status, advanceStop_of_ne (by simpa [xp] using run)]
    simpa [xp] using done
  case layout =>
    rw [requestFailed_eq, accessFailed_layout _ layout, advanceStop_of_ne (by simp [layoutFailed])]
    simp [layoutFailed, xp]
  case due =>
    exact congrArg Host.Outcome.next (if_pos ((timedOut_iff h).2 due))
  case early =>
    exact congrArg Host.Outcome.next (if_neg fun out => Nat.not_le.2 early ((timedOut_iff h).1 out))

end Sys2Proof.Machine

/-! SUPPORT. What the duties of the dim channels depend on (R136, R181): the run state, the layout reads and the channels. Every
operation but those of START, STOP, the ramp and the periods leaves these three alone. -/

namespace Sys2Proof.Machine

open Sys2Proof.Safety

/-- A layout read is on the link. -/
def layoutOnLink (x : XP) : Bool := x.inFlight.any fun f => decide (f.req.access = .layoutRead)

/-- The layout reads that wait for the link. -/
def layoutWaiting (x : XP) : Nat := x.waiting.countP fun r => decide (r.access = .layoutRead)

theorem layoutReads_eq (x : XP) : layoutReads x = (layoutOnLink x).toNat + layoutWaiting x := by
  unfold layoutReads layoutOnLink layoutWaiting
  cases x.inFlight with
  | none => simp
  | some f => by_cases h : f.req.access = .layoutRead <;> simp [h, Nat.add_comm]

/-- The run state, the layout reads and the dim channels. -/
structure DutyView where
  run : RunState
  onLink : Bool
  waiting : Nat
  dims : List Dim

/-- What the duties of a state depend on. -/
def dutyView (s : State) : DutyView := ⟨s.xp.run, layoutOnLink s.xp, layoutWaiting s.xp, s.fu.dims⟩

/-! ### Changes of one block -/

theorem dutyView_of_blocks {s t : State} (xp : t.xp = s.xp) (fu : t.fu = s.fu) : dutyView t = dutyView s := by
  unfold dutyView
  rw [xp, fu]

section
variable (s : State)

@[simp] theorem dutyView_onRu (f : RU → RU) : dutyView (s.onRu f) = dutyView s := rfl
@[simp] theorem dutyView_onPu (f : PU → PU) : dutyView (s.onPu f) = dutyView s := rfl
@[simp] theorem dutyView_onSc (f : SC → SC) : dutyView (s.onSc f) = dutyView s := rfl
@[simp] theorem dutyView_onWc (f : WC → WC) : dutyView (s.onWc f) = dutyView s := rfl
@[simp] theorem dutyView_onCq (f : CQ → CQ) : dutyView (s.onCq f) = dutyView s := rfl
@[simp] theorem dutyView_onMem (f : List Host.Cell → List Host.Cell) : dutyView (s.onMem f) = dutyView s := rfl

end

/-- A change of the Exchange Port that leaves the run state and the requests alone. -/
@[simp] theorem dutyView_onXp {s : State} {f : XP → XP} (run : (f s.xp).run = s.xp.run)
    (inFlight : (f s.xp).inFlight = s.xp.inFlight) (waiting : (f s.xp).waiting = s.xp.waiting) :
    dutyView (s.onXp f) = dutyView s := by
  simp [dutyView, layoutOnLink, layoutWaiting, run, inFlight, waiting]

/-- A change of the Field Line Unit that leaves the dim channels alone. -/
@[simp] theorem dutyView_onFu {s : State} {f : FU → FU} (dims : (f s.fu).dims = s.fu.dims) :
    dutyView (s.onFu f) = dutyView s := by
  simp [dutyView, dims]

/-! ### Attention and memory requests -/

@[simp] theorem raiseAttn_dutyView (f : AttnFlag) (s : State) : dutyView (raiseAttn f s) = dutyView s := by
  simp [raiseAttn]

/-- A transition of the run state changes the run state alone. -/
@[simp] theorem enterRun_dutyView (r : RunState) (s : State) : dutyView (enterRun r s) = { dutyView s with run := r } := rfl

/-- A request of another access is no layout read, on the link or waiting. -/
theorem request_dutyView {r : MemReq} (h : r.access ≠ .layoutRead) (s : State) :
    dutyView (request r s) = dutyView s := by
  simp only [dutyView, request, onXp_xp, onXp_fu, layoutOnLink, layoutWaiting]
  split
  · next idle none_waits => simp [idle, none_waits, h]
  · simp [h]

/-- A request counts itself among those of its access. -/
theorem layoutReads_request (r : MemReq) (s : State) :
    layoutReads (request r s).xp = layoutReads s.xp + if r.access = .layoutRead then 1 else 0 := by
  simp only [request, onXp_xp, layoutReads]
  split
  · next idle none_waits => simp [idle, none_waits]
  · simp [List.countP_append, List.countP_cons, ← Nat.add_assoc]

@[simp] theorem request_read_dutyView {a : Access} (h : a ≠ .layoutRead) (addr n : Nat) (s : State) :
    dutyView (request (readReq a addr n) s) = dutyView s :=
  request_dutyView h s

@[simp] theorem request_write_dutyView {a : Access} (h : a ≠ .layoutRead) (addr : Nat) (data : List Byte) (s : State) :
    dutyView (request (writeReq a addr data) s) = dutyView s :=
  request_dutyView h s

@[simp] theorem recordFault_dutyView (r : MemReq) (s : State) : dutyView (recordFault r s) = dutyView s := by
  simp [recordFault]

@[simp] theorem landWrite_dutyView (r : MemReq) (s : State) : dutyView (landWrite r s) = dutyView s := rfl

@[simp] theorem landFaulted_dutyView (r : MemReq) (s : State) : dutyView (landFaulted r s) = dutyView s :=
  dutyView_of_blocks rfl rfl

/-! ### Lanes -/

theorem LaneWork.dutyView {s t : State} (work : LaneWork s t) (xp : t.xp = s.xp) : dutyView t = dutyView s := by
  unfold Machine.dutyView
  rw [xp, work.fu]

@[simp] theorem clockRecords_dutyView (s : State) : dutyView (clockRecords s) = dutyView s :=
  (clockRecords_work s).dutyView (by simp)

@[simp] theorem handBlanks_dutyView (s : State) : dutyView (handBlanks s) = dutyView s :=
  (handBlanks_work s).dutyView (by simp)

@[simp] theorem transmissionDone_dutyView (n : Nat) (s : State) : dutyView (transmissionDone n s) = dutyView s := by
  refine LaneWork.dutyView ?_ (by simp)
  unfold transmissionDone
  split
  · split
    · exact (onLane_work n _ s).trans (transmitNext_work n _)
    · exact .refl s
  · exact .refl s

/-! ### Names and the status page -/

@[simp] theorem startFetch_dutyView (s : State) : dutyView (startFetch s) = dutyView s := by
  unfold startFetch; split <;> simp

@[simp] theorem askName_dutyView (c : Bool) (i : Nat) (s : State) : dutyView (askName c i s) = dutyView s := by
  unfold askName
  split
  · split <;> simp
  · simp

@[simp] theorem lookupName_dutyView (c : Bool) (i : Nat) (s : State) : dutyView (lookupName c i s).1 = dutyView s := by
  unfold lookupName
  split
  · rfl
  · split <;> simp

@[simp] theorem lookupNames_dutyView (c : Bool) (l : List Nat) (s : State) :
    dutyView (lookupNames c l s).state = dutyView s := by
  induction l generalizing s with
  | nil => rfl
  | cons i l ih =>
    have rest := (ih (lookupName c i s).1).trans (lookupName_dutyView c i s)
    unfold lookupNames
    dsimp only
    split <;> exact rest

@[simp] theorem nameReturned_dutyView (r : Option NameText) (s : State) : dutyView (nameReturned r s) = dutyView s := by
  unfold nameReturned; split <;> simp

@[simp] theorem flushNames_dutyView (n : Option Nat) (s : State) : dutyView (flushNames n s) = dutyView s := by
  simp [flushNames]

@[simp] theorem beginPublication_dutyView (s : State) : dutyView (beginPublication s) = dutyView s := by
  simp [beginPublication]

@[simp] theorem requestPublication_dutyView (s : State) : dutyView (requestPublication s) = dutyView s := by
  unfold requestPublication; split <;> simp

@[simp] theorem endPublication_dutyView (s : State) : dutyView (endPublication s) = dutyView s := by
  unfold endPublication; split <;> simp

@[simp] theorem publishCountWritten_dutyView (s : State) : dutyView (publishCountWritten s) = dutyView s := by
  unfold publishCountWritten
  split
  · rfl
  · split <;> simp

@[simp] theorem publishContentWritten_dutyView (s : State) : dutyView (publishContentWritten s) = dutyView s := by
  unfold publishContentWritten
  split
  · rfl
  · split <;> simp

@[simp] theorem publicationFailed_dutyView (s : State) : dutyView (publicationFailed s) = dutyView s := by
  unfold publicationFailed
  split
  · rfl
  · split <;> simp

/-! ### Cues, tallies and pages -/

@[simp] theorem tryOpenPage_dutyView (s : State) : dutyView (tryOpenPage s) = dutyView s := by
  unfold tryOpenPage; split <;> simp

@[simp] theorem takeRequest_dutyView (r : CueReq) (s : State) : dutyView (takeRequest r s) = dutyView s := by
  unfold takeRequest
  split
  · simp
  · split <;> simp

@[simp] theorem takeRemoval_dutyView (l : List Nat) (s : State) : dutyView (takeRemoval l s) = dutyView s := by
  simp [takeRemoval]

@[simp] theorem startTally_dutyView (s : State) : dutyView (startTally s) = dutyView s := by
  unfold startTally; split <;> simp

@[simp] theorem tallyException_dutyView (s : State) : dutyView (tallyException s) = dutyView s := by
  simp [tallyException]

@[simp] theorem addTally_dutyView (c : Cue) (s : State) : dutyView (addTally c s) = dutyView s := by
  unfold addTally; split_ifs <;> simp

@[simp] theorem endTally_dutyView (s : State) : dutyView (endTally s) = dutyView s := by
  simp [endTally]

@[simp] theorem tallyHalfRead_dutyView (h : Nat) (s : State) : dutyView (tallyHalfRead h s) = dutyView s := by
  unfold tallyHalfRead
  split
  · split <;> simp
  · rfl

@[simp] theorem tallyWordRead_dutyView (w : Nat) (s : State) : dutyView (tallyWordRead w s) = dutyView s := by
  unfold tallyWordRead; split <;> simp

@[simp] theorem tallyHalfWritten_dutyView (s : State) : dutyView (tallyHalfWritten s) = dutyView s := by
  unfold tallyHalfWritten; split <;> simp

@[simp] theorem tallyWordWritten_dutyView (s : State) : dutyView (tallyWordWritten s) = dutyView s := by
  unfold tallyWordWritten; split <;> simp

@[simp] theorem tallyFailed_dutyView (s : State) : dutyView (tallyFailed s) = dutyView s := by
  simp [tallyFailed]

@[simp] theorem progressWrite_dutyView (s : State) : dutyView (progressWrite s) = dutyView s := by
  unfold progressWrite
  split
  · split <;> simp
  · rfl

@[simp] theorem takeFirstEligible_dutyView (s : State) : dutyView (takeFirstEligible s) = dutyView s := by
  unfold takeFirstEligible; split <;> simp

@[simp] theorem writerTest_dutyView (s : State) : dutyView (writerTest s) = dutyView s := by
  unfold writerTest; split <;> simp

@[simp] theorem beginClose_dutyView (c : CloseCauses) (s : State) : dutyView (beginClose c s) = dutyView s := by
  unfold beginClose; split <;> simp

@[simp] theorem pageHeaderWritten_dutyView (s : State) : dutyView (pageHeaderWritten s) = dutyView s := by
  unfold pageHeaderWritten; split <;> simp

@[simp] theorem pageClosed_dutyView (s : State) : dutyView (pageClosed s) = dutyView s := by
  simp [pageClosed, pulseStrobes]

@[simp] theorem recordWritten_dutyView (s : State) : dutyView (recordWritten s) = dutyView s := by
  unfold recordWritten
  split
  · dsimp only
    split <;> simp
  · rfl

@[simp] theorem holdExpired_dutyView (s : State) : dutyView (holdExpired s) = dutyView s := by
  unfold holdExpired
  split
  · rfl
  · split
    · split_ifs <;> simp
    · rfl

@[simp] theorem openAtCursor_dutyView (s : State) : dutyView (openAtCursor s) = dutyView s := by
  simp [openAtCursor]

@[simp] theorem setRetry_dutyView (s : State) : dutyView (setRetry s) = dutyView s := by
  simp [setRetry]

@[simp] theorem stateWordReturned_dutyView (w : Nat) (s : State) : dutyView (stateWordReturned w s) = dutyView s := by
  unfold stateWordReturned; split_ifs <;> simp

@[simp] theorem openWritten_dutyView (s : State) : dutyView (openWritten s) = dutyView s := by
  unfold openWritten
  split
  · rfl
  · split <;> simp

@[simp] theorem retryReached_dutyView (s : State) : dutyView (retryReached s) = dutyView s := by
  unfold retryReached
  split
  · split <;> simp
  · rfl

@[simp] theorem pageWriteFault_dutyView (s : State) : dutyView (pageWriteFault s) = dutyView s := by
  unfold pageWriteFault; split <;> simp

@[simp] theorem framesReached_dutyView (s : State) : dutyView (framesReached s) = dutyView s := by
  simp [framesReached]

/-! ### Frames -/

@[simp] theorem progressNames_dutyView (s : State) : dutyView (progressNames s) = dutyView s := by
  have fu := (progressNames_frameWork s).fu
  unfold dutyView
  rw [fu, (progressNames_frame s).2.2.2.2.1]

@[simp] theorem startFrame_dutyView (s : State) : dutyView (startFrame s) = dutyView s := by
  simp [startFrame]

@[simp] theorem completeFrame_dutyView (s : State) : dutyView (completeFrame s) = dutyView s := by
  simp [completeFrame]

@[simp] theorem progressFrame_dutyView (s : State) : dutyView (progressFrame s) = dutyView s := by
  unfold progressFrame
  dsimp only
  split_ifs <;> simp

@[simp] theorem requestFrame_dutyView (s : State) : dutyView (requestFrame s) = dutyView s := by
  unfold requestFrame
  split
  · split <;> simp
  · rfl

/-! ### The Roster Unit and the Platform Unit -/

@[simp] theorem setDep_dutyView (i : Nat) (f : Departure → Departure) (s : State) :
    dutyView (setDep i f s) = dutyView s := rfl

@[simp] theorem enterState_dutyView (st : DepState) (i : Nat) (s : State) :
    dutyView (enterState st i s) = dutyView s := rfl

@[simp] theorem depart_dutyView (i : Nat) (s : State) : dutyView (depart i s) = dutyView s := by
  simp [depart]

@[simp] theorem retire_dutyView (i : Nat) (s : State) : dutyView (retire i s) = dutyView s := by
  simp [retire]

theorem transition_dutyView {s t : State} {d : Departure} {f : State → State} (h : transitionOf s d = some f) :
    dutyView (f t) = dutyView t := by
  rcases transitionOf_cases h with rfl | rfl | rfl | rfl | rfl
  · exact retire_dutyView _ t
  · unfold promote; dsimp only; split <;> simp
  · exact depart_dutyView _ t
  · unfold beginClosing; dsimp only; split <;> simp
  · exact enterState_dutyView _ _ t

theorem visit_dutyView (a : State × Bool) (i : Nat) : dutyView (visit a i).1 = dutyView a.1 := by
  unfold visit
  split
  · next f h =>
    obtain ⟨d, -, hd⟩ := Option.bind_eq_some_iff.1 h
    exact transition_dutyView hd
  · rfl

@[simp] theorem evaluationPass_dutyView (s : State) : dutyView (evaluationPass s).1 = dutyView s :=
  foldl_keeps (P := fun a : State × Bool => dutyView a.1 = dutyView s) (fun a i _ h => (visit_dutyView a i).trans h) rfl

@[simp] theorem evaluate_dutyView (s : State) : dutyView (evaluate s) = dutyView s := by
  unfold evaluate; split_ifs <;> simp

@[simp] theorem absentEdge_dutyView (p : Nat) (s : State) : dutyView (absentEdge p s) = dutyView s := by
  unfold absentEdge absentEffect
  rw [requestFrame_dutyView]
  split
  · rfl
  · split <;> simp

@[simp] theorem carryOne_dutyView (s : State) (i : Nat) : dutyView (carryOne s i) = dutyView s := by
  unfold carryOne
  split
  · rfl
  · split <;> simp

@[simp] theorem carry_dutyView (s : State) : dutyView (carry s) = dutyView s :=
  foldl_view dutyView carryOne carryOne_dutyView _ s

@[simp] theorem endFlashes_dutyView (s : State) : dutyView (endFlashes s) = dutyView s := by
  unfold endFlashes; split <;> simp

@[simp] theorem expireNotices_dutyView (s : State) : dutyView (expireNotices s) = dutyView s := by
  unfold expireNotices; split <;> simp

@[simp] theorem speakNotice_dutyView (s : State) (i : Nat) : dutyView (speakNotice s i) = dutyView s := by
  simp [speakNotice]

@[simp] theorem repeatNotices_dutyView (s : State) : dutyView (repeatNotices s) = dutyView s := by
  unfold repeatNotices
  split
  · exact foldl_view dutyView speakNotice speakNotice_dutyView _ s
  · rfl

@[simp] theorem setPlatform_dutyView (p : Nat) (f : PlatformRec → PlatformRec) (s : State) :
    dutyView (setPlatform p f s) = dutyView s :=
  dutyView_of_blocks (by simp) (by simp)

@[simp] theorem takeLevel_dutyView (p : Nat) (l : Bool) (s : State) : dutyView (takeLevel p l s) = dutyView s :=
  dutyView_of_blocks (by simp) (by simp)

@[simp] theorem contactFaults_dutyView (p : Nat) (s : State) : dutyView (contactFaults p s) = dutyView s := by
  simp [contactFaults]

@[simp] theorem acceptChange_dutyView (p : Nat) (b : Bool) (s : State) : dutyView (acceptChange p b s) = dutyView s := by
  cases b <;> simp [acceptChange]

@[simp] theorem pendingExpired_dutyView (p : Nat) (b : Bool) (s : State) :
    dutyView (pendingExpired p b s) = dutyView s := by
  unfold pendingExpired endBaseline
  split
  · simp
  · rfl
  all_goals split <;> simp

@[simp] theorem startBaseline_dutyView (p : Nat) (s : State) : dutyView (startBaseline p s) = dutyView s :=
  dutyView_of_blocks (by simp) (by simp)

@[simp] theorem restoreContact_dutyView (p : Nat) (s : State) : dutyView (restoreContact p s) = dutyView s :=
  dutyView_of_blocks (by simp) (by simp)

@[simp] theorem forgetContacts_dutyView (s : State) : dutyView (forgetContacts s) = dutyView s := rfl

/-! ### The Station Clock -/

@[simp] theorem clockReport_dutyView (k : ClockSub) (o : Option Int) (s : State) :
    dutyView (clockReport k o s) = dutyView s := by
  simp [clockReport]

@[simp] theorem takeStationSecond_dutyView (s : State) : dutyView (takeStationSecond s) = dutyView s := by
  unfold takeStationSecond; dsimp only; split <;> simp

@[simp] theorem takeStationMinute_dutyView (s : State) : dutyView (takeStationMinute s) = dutyView s :=
  requestFrame_dutyView s

@[simp] theorem rollOver_dutyView (t : Nat) (s : State) : dutyView (rollOver t s) = dutyView s := by
  simp [rollOver]

@[simp] theorem secondAndMinute_dutyView (s : State) : dutyView (secondAndMinute s) = dutyView s := by
  simp [secondAndMinute]

@[simp] theorem crossings_dutyView (b : Nat) (s : State) : dutyView (crossings b s) = dutyView s := by
  unfold crossings; dsimp only; split_ifs <;> simp

@[simp] theorem advance_dutyView (n : Nat) (s : State) : dutyView (advance n s) = dutyView s := by
  unfold advance; split <;> simp

@[simp] theorem slewPoint_dutyView (s : State) : dutyView (slewPoint s) = dutyView s := by
  simp [slewPoint]

@[simp] theorem slewMark_dutyView (o : Int) (s : State) : dutyView (slewMark o s) = dutyView s := by
  unfold slewMark; dsimp only; split <;> simp

@[simp] theorem stepTime_dutyView (o : Int) (s : State) : dutyView (stepTime o s) = dutyView s := by
  unfold stepTime; dsimp only; split <;> simp

@[simp] theorem stepMark_dutyView (o : Int) (s : State) : dutyView (stepMark o s) = dutyView s := by
  unfold stepMark stepClock
  split
  · split <;> simp
  · simp

@[simp] theorem takeMark_dutyView (s : State) : dutyView (takeMark s) = dutyView s := by
  unfold takeMark disciplineMark
  dsimp only
  split_ifs <;> simp

@[simp] theorem enterHoldover_dutyView (s : State) : dutyView (enterHoldover s) = dutyView s := by
  simp [enterHoldover]

@[simp] theorem setTime_dutyView (w d : Nat) (s : State) : dutyView (setTime w d s) = dutyView s := by
  unfold setTime; dsimp only; split <;> simp

@[simp] theorem setTimeEvents_dutyView (s : State) : dutyView (setTimeEvents s) = dutyView s := by
  simp [setTimeEvents]

/-! ### Sampled lines, strobes and sensors -/

@[simp] theorem setLine_dutyView (n : Nat) (f : FieldLine → FieldLine) (s : State) :
    dutyView (setLine n f s) = dutyView s := rfl

@[simp] theorem contactSample_dutyView (n : Nat) (l d : Bool) (s : State) :
    dutyView (contactSample n l d s) = dutyView s := by
  unfold contactSample holdSample
  split
  · split
    · rfl
    · dsimp only; split <;> simp
  · rfl

@[simp] theorem markSample_dutyView (l : Bool) (s : State) : dutyView (markSample l s) = dutyView s := by
  unfold markSample
  split
  · rfl
  · dsimp only; split_ifs <;> simp

@[simp] theorem endPulse_dutyView (n : Nat) (s : State) : dutyView (endPulse n s) = dutyView s := rfl

@[simp] theorem sampleSensors_dutyView (r : Nat → Nat) (s : State) : dutyView (sampleSensors r s) = dutyView s :=
  dutyView_onFu rfl

/-! ### Sheets -/

theorem makeNote_dutyView (s : State) (n : Note) : dutyView (makeNote s n) = dutyView s := by
  cases n with
  | delay k d =>
    unfold makeNote testDelay
    dsimp only
    split
    · rfl
    · split <;> simp
  | notice id => unfold makeNote; dsimp only; split <;> simp
  | platformChange | cancellation | reinstated | removal | restore | setTime | flush => simp [makeNote]

@[simp] theorem commitNotes_dutyView (w : Work) (s : State) : dutyView (commitNotes w s) = dutyView s :=
  foldl_view dutyView makeNote makeNote_dutyView _ _

@[simp] theorem applySheet_dutyView (h : SheetHeader) (units : Option (List Byte)) (s : State) :
    dutyView (applySheet h units s) = dutyView s := by
  unfold applySheet commitSheet
  split
  · dsimp only; split <;> simp
  · rfl

@[simp] theorem refusePost_dutyView (n : Nat) (why : PostRefusal) (s : State) :
    dutyView (refusePost n why s) = dutyView s := by
  simp [refusePost]

@[simp] theorem tryTake_dutyView (s : State) : dutyView (tryTake s) = dutyView s := by
  unfold tryTake
  split
  · split <;> simp
  · rfl

@[simp] theorem takePost_dutyView (n : Nat) (s : State) : dutyView (takePost n s) = dutyView s := by
  unfold takePost; split <;> simp

@[simp] theorem fetchCompleted_dutyView (units : Option (List Byte)) (s : State) :
    dutyView (fetchCompleted units s) = dutyView s := by
  unfold fetchCompleted; split <;> simp [sheetRequest]

@[simp] theorem flightEnds_dutyView (s : State) : dutyView (flightEnds s) = dutyView s := by
  simp [flightEnds]

@[simp] theorem headerReturned_dutyView (bs : List Byte) (s : State) : dutyView (headerReturned bs s) = dutyView s := by
  unfold headerReturned
  split
  · rfl
  · split <;> simp [sheetRequest]

@[simp] theorem takenWritten_dutyView (s : State) : dutyView (takenWritten s) = dutyView s := by
  unfold takenWritten
  split
  · rfl
  · split <;> simp [sheetRequest]

@[simp] theorem resultWritten_dutyView (s : State) : dutyView (resultWritten s) = dutyView s := by
  unfold resultWritten; split <;> simp [sheetRequest]

@[simp] theorem doneWritten_dutyView (s : State) : dutyView (doneWritten s) = dutyView s := by
  simp [doneWritten]

end Sys2Proof.Machine

/-! PROOF that layout reads are in flight in STARTING alone, and that duties keep their range and are 0 outside RUNNING (R136,
R139, R140, R180, R181). -/

namespace Sys2Proof.Machine

open Sys2Proof.Safety

/-! ### The invariants, read off the view -/

theorem layoutInv_iff (x : XP) :
    LayoutInv x ↔ (layoutOnLink x).toNat + layoutWaiting x ≤ if x.run = .starting then 1 else 0 := by
  rw [LayoutInv, layoutReads_eq]

/-- Every duty of the channels and its bounds lie within 0..1000 (R136). -/
def DutiesBounded (dims : List Dim) : Prop := ∀ d ∈ dims, d.duty ≤ 1000 ∧ d.par.min ≤ 1000 ∧ d.par.max ≤ 1000

/-- Every duty of the channels is 0 (R136). -/
def DutiesDark (dims : List Dim) : Prop := ∀ d ∈ dims, d.duty = 0

theorem dutyInv_iff (s : State) :
    DutyInv s ↔ DutiesBounded s.fu.dims ∧ (s.xp.run ≠ .running → DutiesDark s.fu.dims) :=
  ⟨fun h => ⟨h.bounds, h.dark⟩, fun h => ⟨h.1, h.2⟩⟩

/-- Going from `s` to `t` keeps the layout reads in STARTING and, with that, the duties in their range. -/
def KeepsDuties (s t : State) : Prop := LayoutInv s.xp → LayoutInv t.xp ∧ (DutyInv s → DutyInv t)

theorem KeepsDuties.refl (s : State) : KeepsDuties s s := fun h => ⟨h, id⟩

theorem KeepsDuties.trans {s t u : State} (h : KeepsDuties s t) (k : KeepsDuties t u) : KeepsDuties s u := fun i =>
  ⟨(k (h i).1).1, fun d => (k (h i).1).2 ((h i).2 d)⟩

theorem KeepsDuties.ite {b : Prop} [Decidable b] {s t : State} (h : KeepsDuties s t) :
    KeepsDuties s (if b then t else s) := by
  split
  · exact h
  · exact .refl s

/-- What leaves the view alone keeps both. -/
theorem KeepsDuties.of_view {s t : State} (view : dutyView t = dutyView s) : KeepsDuties s t := by
  obtain ⟨run, onLink, waiting, dims⟩ := DutyView.mk.inj view
  intro layout
  rw [layoutInv_iff] at layout ⊢
  rw [dutyInv_iff, dutyInv_iff, run, onLink, waiting, dims]
  exact ⟨layout, id⟩

/-- An operation that does something only under a condition leaves the view alone when it does so then. -/
@[simp] theorem ite_dutyView {b : Prop} [Decidable b] {s t : State} (h : dutyView t = dutyView s) :
    dutyView (if b then t else s) = dutyView s := by
  split
  · exact h
  · rfl

/-! ### The arbiter (R176) -/

/-- The arbiter's choice takes the request that was on the link away, and moves one that waits there. -/
theorem layoutReads_releaseLink (s : State) : layoutReads (releaseLink s).xp = layoutWaiting s.xp := by
  simp only [releaseLink, onXp_xp]
  split
  · next idle => simp [layoutReads, layoutWaiting]
  · next r chosen =>
    have moved := (List.perm_cons_erase (highestRank_mem chosen)).symm
    exact moved.countP_eq _

theorem releaseLink_keepsDuties (s : State) : KeepsDuties s (releaseLink s) := by
  intro layout
  have run : (releaseLink s).xp.run = s.xp.run := (releaseLink_port s).1
  refine ⟨?_, ?_⟩
  · rw [layoutInv_iff] at layout
    rw [LayoutInv, layoutReads_releaseLink, run]
    omega
  · rw [dutyInv_iff, dutyInv_iff, run]
    exact id

/-! ### The STOPPING sequence (R184) -/

theorem enterStopped_dutyView (s : State) : dutyView (enterStopped s) = { dutyView s with run := .stopped } := by
  rw [enterStopped_eq]
  split <;> simp [stoppedState]

theorem stages_dutyView (s : State) : dutyView (pageStep (frameStep (sheetStep s))) = dutyView s := by
  have sheet : dutyView (sheetStep s) = dutyView s := by unfold sheetStep; split <;> simp [enterStage]
  have frame (t : State) : dutyView (frameStep t) = dutyView t := by unfold frameStep; split <;> simp [enterStage]
  have page (t : State) : dutyView (pageStep t) = dutyView t := by
    unfold pageStep
    split
    · split
      · simp [enterStage]
      · simp
    · rfl
  rw [page, frame, sheet]

/-- The STOPPING sequence leaves the view alone, or ends with the part STOPPED. -/
theorem advanceStop_dutyView (s : State) :
    dutyView (advanceStop s) = dutyView s ∨
      s.xp.run = .stopping ∧ dutyView (advanceStop s) = { dutyView s with run := .stopped } := by
  unfold advanceStop
  split
  · next run =>
    unfold laneStep
    split
    · exact .inr ⟨run, by rw [enterStopped_dutyView, stages_dutyView]⟩
    · exact .inl (stages_dutyView s)
  · exact .inl rfl

/-- A transition from a run state other than STARTING and RUNNING, with layout reads and channels as they stand. -/
theorem KeepsDuties.of_run {s t : State} {r : RunState} (view : dutyView t = { dutyView s with run := r })
    (running : s.xp.run ≠ .running) (starting : s.xp.run ≠ .starting) : KeepsDuties s t := by
  obtain ⟨run, onLink, waiting, dims⟩ := DutyView.mk.inj view
  intro layout
  rw [layoutInv_iff] at layout ⊢
  rw [dutyInv_iff, dutyInv_iff, run, onLink, waiting, dims]
  rw [if_neg starting] at layout
  exact ⟨layout.trans (Nat.zero_le _), fun ⟨bounds, dark⟩ => ⟨bounds, fun _ => dark running⟩⟩

theorem advanceStop_keepsDuties (s : State) : KeepsDuties s (advanceStop s) := by
  obtain view | ⟨run, view⟩ := advanceStop_dutyView s
  · exact .of_view view
  · exact .of_run view (by simp [run]) (by simp [run])

/-! ### The ends of memory requests other than the layout read (R176, R177) -/

/-- What a block does at an answer, the STOPPING sequence and the arbiter's choice keep both. -/
theorem answered_keepsDuties {s t : State} (view : dutyView t = dutyView s) :
    KeepsDuties s (releaseLink (advanceStop t)) :=
  ((KeepsDuties.of_view view).trans (advanceStop_keepsDuties t)).trans (releaseLink_keepsDuties _)

theorem complete_keepsDuties {a : Access} {act : MemReq → State → State}
    (view : ∀ r s, dutyView (act r s) = dutyView s) (s : State) : KeepsDuties s (complete a act s) := by
  unfold complete
  split
  · split
    · exact answered_keepsDuties (view _ s)
    · exact .refl s
  · exact .refl s

theorem onData_keepsDuties {a : Access} {act : List Byte → State → State}
    (view : ∀ bs s, dutyView (act bs s) = dutyView s) (s : State) : KeepsDuties s (complete a (onData act) s) :=
  complete_keepsDuties (fun _ _ => view _ _) s

theorem onLanded_keepsDuties {a : Access} {act : State → State} (view : ∀ s, dutyView (act s) = dutyView s) (s : State) :
    KeepsDuties s (complete a (onLanded act) s) :=
  complete_keepsDuties (fun r s => (view _).trans (landWrite_dutyView r s)) s

@[simp] theorem nameAnswered_dutyView (r : Option NameText) (s : State) : dutyView (nameAnswered r s) = dutyView s := by
  simp [nameAnswered]

theorem accessFailed_dutyView {a : Access} (other : a ≠ .layoutRead) (s : State) :
    dutyView (accessFailed a s) = dutyView s := by
  cases a with
  | layoutRead => exact absurd rfl other
  | headerRead | takenWrite | unitRead => exact fetchCompleted_dutyView none s
  | resultWrite | doneWrite => exact flightEnds_dutyView s
  | nameRead => exact nameAnswered_dutyView none s
  | stateWordRead => exact setRetry_dutyView s
  | openWrite | recordWrite | pageHeaderWrite | closedWrite => exact pageWriteFault_dutyView s
  | tallyHalfRead | tallyWordRead | tallyHalfWrite | tallyWordWrite => exact tallyFailed_dutyView s
  | publishCountWrite | publishContentWrite => exact publicationFailed_dutyView s

@[simp] theorem faulted_dutyView (f : InFlight) (s : State) : dutyView (faulted f s) = dutyView s := by
  simp [faulted]

/-! ### START and the end of the layout read (R181 to R183) -/

/-- A START with an exchange area makes the one layout read, of a part that was STOPPED (R181). -/
theorem beginStart_keepsDuties {s : State} (stopped : s.xp.run = .stopped) : KeepsDuties s (beginStart s) := by
  unfold beginStart
  split
  · exact .of_view (by simp)
  · intro layout
    have run : (request (readReq .layoutRead (areaBase s) 8192) (enterRun .starting s)).xp.run = .starting := by
      simp [enterRun]
    rw [LayoutInv, stopped] at layout
    refine ⟨?_, fun duty => ?_⟩
    · rw [LayoutInv, run, layoutReads_request]
      exact Nat.succ_le_succ layout
    · rw [dutyInv_iff] at duty ⊢
      simp only [request_frame, enterRun_frame]
      exact ⟨duty.1, fun _ => duty.2 (by simp [stopped])⟩

/-- A start that fails leaves the part STOPPED (R182). -/
theorem failStart_dutyView (f : StartFault) (s : State) :
    dutyView (failStart f s) = { dutyView s with run := .stopped } := by
  simp [failStart]

/-- The application of a layout leaves the part RUNNING, with the channels that the layout gives (R183). -/
theorem firstWork_takeLayout_dutyView (rd : LayoutReader) (inputs : LineInputs) (s : State) :
    dutyView (firstWork (takeLayout rd inputs s)) =
      { dutyView s with run := .running, dims := (newFU rd inputs s.fu).dims } := by
  have baselines (n : Nat) (t : State) : dutyView (baselines n t) = dutyView t :=
    dutyView_of_blocks (baselines_frame n t).2.2.2.2.1 (baselines_frame n t).2.2.2.1
  rw [firstWork_eq, requestFrame_dutyView, clockRecords_dutyView, baselines]
  rfl

theorem clampNat_le {a b m : Nat} (ha : a ≤ m) (hb : b ≤ m) (v : Nat) : clampNat v a b ≤ m := by
  unfold clampNat
  split_ifs <;> omega

/-- The value of a parameter is no more than its default or the ends of its range (R188). -/
theorem Param.value_le {p : Param} {m : Nat} (dflt : p.dflt ≤ m) (lo : p.lo ≤ m) (hi : p.hi ≤ m) (rd : LayoutReader) :
    p.value rd ≤ m := by
  unfold Param.value
  dsimp only
  split
  · exact dflt
  · exact clampNat_le lo hi _

/-- Each channel of a new layout is at duty 0, with bounds within 0..1000 (R132, R136). -/
theorem newFU_duties (rd : LayoutReader) (inputs : LineInputs) {x : FU} (bounds : DutiesBounded x.dims) :
    DutiesBounded (newFU rd inputs x).dims ∧ DutiesDark (newFU rd inputs x).dims := by
  have each : ∀ d ∈ (newFU rd inputs x).dims, d.duty = 0 ∧ d.par.min ≤ 1000 ∧ d.par.max ≤ 1000 := by
    intro d hd
    obtain ⟨⟨old, k⟩, mem, rfl⟩ := List.mem_map.1 hd
    have least : (pDimMin k).value rd ≤ 1000 := Param.value_le (by decide : 0 ≤ 1000) (by decide : 0 ≤ 1000) le_rfl rd
    have most : (pDimMax k).value rd ≤ 1000 := Param.value_le (le_refl 1000) (by decide : 0 ≤ 1000) le_rfl rd
    dsimp only [newDimChannel]
    split
    · exact ⟨rfl, least, max_le least most⟩
    · exact ⟨rfl, (bounds old (List.fst_mem_of_mem_zipIdx mem)).2⟩
  exact ⟨fun d hd => ⟨(each d hd).1 ▸ Nat.zero_le _, (each d hd).2⟩, fun d hd => (each d hd).1⟩

/-- The end of the layout read: it was the one layout read, of a part that was STARTING, and none is left when the part is
STOPPED or RUNNING. -/
theorem layoutRead_ends {s t : State} {v : DutyView} (onLink : layoutOnLink s.xp = true) (view : dutyView t = v)
    (waiting : v.waiting = layoutWaiting s.xp) (run : v.run = .stopped ∨ v.run = .running)
    (dims : DutiesBounded s.fu.dims → DutiesDark s.fu.dims → DutiesBounded v.dims ∧ DutiesDark v.dims) :
    KeepsDuties s (releaseLink (advanceStop t)) := by
  subst view
  have left : advanceStop t = t := advanceStop_of_ne fun h => by
    rcases run with e | e <;> exact absurd (e.symm.trans h) (by decide)
  intro layout
  rw [layoutInv_iff, onLink] at layout
  have starting : s.xp.run = .starting := by
    by_contra other
    simp [other] at layout
  have none_waits : layoutWaiting s.xp = 0 := by simpa [starting] using layout
  rw [left]
  refine ⟨?_, fun duty => ?_⟩
  · rw [LayoutInv, layoutReads_releaseLink, show layoutWaiting t.xp = 0 from waiting.trans none_waits]
    exact Nat.zero_le _
  · obtain ⟨bounds, dark⟩ := (dutyInv_iff s).1 duty
    obtain ⟨newBounds, newDark⟩ := dims bounds (dark (by simp [starting]))
    exact (dutyInv_iff _).2 ⟨newBounds, fun _ => newDark⟩

theorem failedLayout_keepsDuties {s t : State} {f : StartFault} (onLink : layoutOnLink s.xp = true)
    (view : dutyView t = dutyView s) : KeepsDuties s (releaseLink (advanceStop (failStart f t))) :=
  layoutRead_ends onLink ((failStart_dutyView f t).trans (by rw [view])) rfl (.inl rfl) fun bounds dark => ⟨bounds, dark⟩

theorem layoutReturned_keepsDuties {s : State} (rd : LayoutReader) (inputs : LineInputs)
    (onLink : layoutOnLink s.xp = true) : KeepsDuties s (releaseLink (advanceStop (layoutReturned rd inputs s))) := by
  unfold layoutReturned
  split
  · exact failedLayout_keepsDuties onLink rfl
  · split
    · exact failedLayout_keepsDuties onLink rfl
    · exact layoutRead_ends onLink (firstWork_takeLayout_dutyView rd inputs s) rfl (.inr rfl)
        fun bounds _ => newFU_duties rd inputs bounds

theorem layoutOnLink_of {s : State} {f : InFlight} (busy : s.xp.inFlight = some f) (read : f.req.access = .layoutRead) :
    layoutOnLink s.xp = true := by
  simp [layoutOnLink, busy, read]

theorem layoutReadComplete_keepsDuties (inputs : LineInputs) (s : State) :
    KeepsDuties s (complete .layoutRead (fun r t => layoutReturned (layoutAt t.mem r.addr) inputs t) s) := by
  unfold complete
  split
  · next f busy =>
    split
    · next read => exact layoutReturned_keepsDuties _ inputs (layoutOnLink_of busy read)
    · exact .refl s
  · exact .refl s

/-- A memory fault of the layout read is the end of a start, and any other leaves the view alone (R177, R181). -/
theorem linkFault_keepsDuties (s : State) : KeepsDuties s (linkFault s) := by
  unfold linkFault
  split
  · next f busy =>
    rw [requestFailed_eq]
    by_cases read : f.req.access = .layoutRead
    · rw [read]
      exact failedLayout_keepsDuties (layoutOnLink_of busy read) (faulted_dutyView f s)
    · exact answered_keepsDuties ((accessFailed_dutyView read _).trans (faulted_dutyView f s))
  · exact .refl s

/-! ### Changes of the channels (R136, R137, R139, R140) -/

/-- A change of the dim channels changes each by its number. -/
theorem onDims_get (f : Nat → Dim → Dim) (s : State) (k : Nat) :
    (onDims f s).fu.dims[k]? = (s.fu.dims[k]?).map (f k) := by
  simp [onDims, List.getElem?_zipIdx, Function.comp_def]

/-- A change of the channels that keeps their bounds, and their darkness outside RUNNING, keeps both. -/
theorem onDims_keepsDuties {s : State} {f : Nat → Dim → Dim}
    (par : ∀ k d, (f k d).par = d.par)
    (bounded : ∀ k d, d.duty ≤ 1000 → d.par.min ≤ 1000 → d.par.max ≤ 1000 → (f k d).duty ≤ 1000)
    (dark : s.xp.run ≠ .running → ∀ k d, d.duty = 0 → (f k d).duty = 0) : KeepsDuties s (onDims f s) := by
  refine fun layout => ⟨layout, fun duty => (dutyInv_iff _).2 ⟨fun d hd => ?_, fun run d hd => ?_⟩⟩ <;>
    obtain ⟨⟨old, k⟩, mem, rfl⟩ := List.mem_map.1 hd
  · obtain ⟨value, least, most⟩ := duty.bounds old (List.fst_mem_of_mem_zipIdx mem)
    exact ⟨bounded k old value least most, by rw [par]; exact ⟨least, most⟩⟩
  · exact dark run k old (duty.dark run old (List.fst_mem_of_mem_zipIdx mem))

/-- The target lies within the channel's bounds, or below them in the night (R139). -/
theorem dimTarget_le (s : State) {p : DimParams} {m : Nat} (least : p.min ≤ m) (most : p.max ≤ m) :
    dimTarget s p ≤ m := by
  have base : dimBaseTarget s.fu.sensors p ≤ m := by
    unfold dimBaseTarget
    split <;> exact clampNat_le least most _
  unfold dimTarget
  dsimp only
  split
  · exact (min_le_left _ _).trans base
  · exact base

/-- A ramp step stays between the duty and its target (R140). -/
theorem rampToward_le {duty target m : Nat} (h : duty ≤ m) (k : target ≤ m) : rampToward duty target ≤ m := by
  unfold rampToward
  split_ifs <;> omega

theorem rampDims_keepsDuties (s : State) : KeepsDuties s (rampDims s) := by
  unfold rampDims
  split
  · next run =>
    refine onDims_keepsDuties (fun k d => ?_) (fun k d value least most => ?_) fun other => absurd run other
    · split <;> rfl
    · split
      · exact rampToward_le value (dimTarget_le s least most)
      · exact value
  · exact .refl s

theorem dimPeriod_keepsDuties (s : State) : KeepsDuties s (dimPeriod s) := by
  have duty (k : Nat) (d : Dim) :
      (if dimConfigured s.fu.lines k then { d with drive := some (dimWaveform d.duty d.par.dead) } else d).duty = d.duty := by
    split <;> rfl
  refine onDims_keepsDuties (fun k d => ?_) (fun k d value _ _ => ?_) fun _ k d off => ?_
  · split <;> rfl
  · rw [duty]; exact value
  · rw [duty]; exact off

/-! ### STOP (R136, R184) -/

/-- At a STOP in RUNNING, before the STOPPING sequence goes on: every duty is 0. -/
def stopBegun (s : State) : State :=
  zeroDuties
    ((enterRun .stopping (s.onXp fun x => { x with postQueue := [], stopStage := some .sheet })).onWc
      fun x => { x with frameWanted := false })

theorem enterStopping_eq (s : State) : enterStopping s = advanceStop (stopBegun s) := rfl

theorem zeroDuties_dark (s : State) : DutiesDark (zeroDuties s).fu.dims := by
  intro d hd
  obtain ⟨x, -, rfl⟩ := List.mem_map.1 hd
  rfl

theorem stopBegun_keepsDuties {s : State} (running : s.xp.run = .running) : KeepsDuties s (stopBegun s) := by
  intro layout
  rw [LayoutInv, running] at layout
  refine ⟨layout, fun duty => (dutyInv_iff _).2 ⟨fun d hd => ?_, fun _ => zeroDuties_dark _⟩⟩
  obtain ⟨⟨old, k⟩, mem, rfl⟩ := List.mem_map.1 hd
  exact ⟨Nat.zero_le _, (duty.bounds old (List.fst_mem_of_mem_zipIdx mem)).2⟩

theorem enterStopping_keepsDuties {s : State} (running : s.xp.run = .running) : KeepsDuties s (enterStopping s) :=
  (stopBegun_keepsDuties running).trans (advanceStop_keepsDuties _)

/-! ### Commands and steps -/

/-- A reset leaves no request, and every duty at 0 (R185). -/
theorem resetPart_keepsDuties (s : State) : KeepsDuties s (resetPart s) := by
  have reset : ∀ d ∈ (resetPart s).fu.dims, d = Dim.reset := fun d hd => List.eq_of_mem_replicate hd
  refine fun _ => ⟨Nat.zero_le _, fun _ => (dutyInv_iff _).2 ⟨fun d hd => ?_, fun _ d hd => ?_⟩⟩ <;> rw [reset d hd]
  · exact ⟨Nat.zero_le _, Nat.zero_le _, le_refl 1000⟩
  · rfl

theorem exec_keepsDuties {c : Instr} {s t : State} (h : exec c s = .next t) : KeepsDuties s t := by
  cases c with
  | hostMemoryWrite a bs =>
    simp only [exec, execHostMemoryWrite] at h
    split_ifs at h
    obtain rfl := Host.Outcome.next.inj h
    exact .of_view rfl
  | start =>
    obtain rfl := Host.Outcome.next.inj h
    split
    · next stopped => exact beginStart_keepsDuties stopped
    · exact .refl s
  | stop =>
    obtain rfl := Host.Outcome.next.inj h
    split
    · next running => exact enterStopping_keepsDuties running
    · exact .of_view (by simp)
    all_goals exact .refl s
  | reset | powerOnReset => obtain rfl := Host.Outcome.next.inj h; exact resetPart_keepsDuties s
  | layoutReadComplete inputs => obtain rfl := Host.Outcome.next.inj h; exact layoutReadComplete_keepsDuties inputs s
  | memoryFault => obtain rfl := Host.Outcome.next.inj h; exact linkFault_keepsDuties s
  | memoryRequestTimeout => obtain rfl := Host.Outcome.next.inj h; exact (linkFault_keepsDuties s).ite
  | runningTick =>
    obtain rfl := Host.Outcome.next.inj h
    exact ((KeepsDuties.of_view (evaluate_dutyView s)).trans (rampDims_keepsDuties _)).ite
  | dimPeriodStart => obtain rfl := Host.Outcome.next.inj h; exact dimPeriod_keepsDuties s
  | laneTransmissionComplete n =>
    obtain rfl := Host.Outcome.next.inj h
    exact (KeepsDuties.of_view (by simp)).trans (advanceStop_keepsDuties _)
  | cueRequest r => obtain rfl := Host.Outcome.next.inj h; split <;> exact .of_view (by simp)
  | pendingChangeExpiry p => obtain rfl := Host.Outcome.next.inj h; split <;> exact .of_view (by simp)
  | headerReadComplete | fetchCompletion | nameReadComplete | stateWordReadComplete | tallyHalfwordReadComplete
  | tallyWordReadComplete =>
    obtain rfl := Host.Outcome.next.inj h
    exact onData_keepsDuties (fun _ _ => by simp) s
  | takenWriteComplete | resultWriteComplete | doneWriteComplete | openWriteComplete | cueRecordWriteComplete
  | pageHeaderWriteComplete | closedWriteComplete | tallyHalfwordWriteComplete | tallyWordWriteComplete
  | publishCountWriteComplete | publishContentWriteComplete =>
    obtain rfl := Host.Outcome.next.inj h
    exact onLanded_keepsDuties (fun _ => by simp) s
  | post | xbaseWrite | attnWrite | attnenWrite | registerWriteIgnored | flashEnd | noticeExpiry | noticeRepeat
  | slewPoint | stationSecond | stationMinute | dayRollover | holdoverTimeout | mark | contactLevelChange | absentEdge
  | presentEdge | sensorSample | framePeriod | frameRequest | removalRequest | pageRetry | holdExpiry | strobePulseEnd =>
    obtain rfl := Host.Outcome.next.inj h
    exact .of_view (by simp)

theorem tick_keepsDuties (s : State) : KeepsDuties s (tick s) := by
  refine .of_view (dutyView_of_blocks ?_ ?_) <;> (unfold tick; dsimp only; split <;> rfl)

theorem step_keepsDuties {s t : State} (h : step s = .next t) : KeepsDuties s t := by
  cases hp : s.pending with
  | nil =>
    obtain rfl : tick s = t := by simpa [step, hp] using h
    exact tick_keepsDuties s
  | cons c rest =>
    have run : exec c { s with pending := rest } = .next t := by simpa [step, hp] using h
    have queue : KeepsDuties s { s with pending := rest } := .of_view (dutyView_of_blocks rfl rfl)
    exact queue.trans (exec_keepsDuties run)

/-- Settles O53: START makes the one layout read and its end takes it away; the layout, the ramp, STOP and a reset alone
move a duty, each within its bounds. -/
theorem dutiesStayInRange : Obligations.DutiesStayInRange :=
  fun _ _ layout h => step_keepsDuties h layout

end Sys2Proof.Machine

/-! PROOF of what ramps, periods, samples and pulses do to the field lines' channels and sensors (R135 to R140). -/

namespace Sys2Proof.Machine

open Sys2Proof.Safety

/-! ### The ramp (R139, R140) -/

theorem atRunningTick_of {s : State} (tick : s.sc.u % 1000 = 0) (later : s.sc.u ≠ 0) : atRunningTick s = true := by
  simp [atRunningTick, tick, later]

theorem evaluate_of_ne {s : State} (run : s.xp.run ≠ .running) : evaluate s = s := by
  simp [evaluate, run]

/-- Of the Field Line Unit an evaluation pass changes the lanes alone, by the frame it requests. -/
theorem evaluate_fu (s : State) : (evaluate s).fu = { s.fu with lanes := (evaluate s).fu.lanes } := by
  have asked : (requestFrame (evaluationPass s).1).fu =
      { s.fu with lanes := (requestFrame (evaluationPass s).1).fu.lanes } := by
    rw [(requestFrame_frameWork _).fu, (evaluationPass_frame s).2.2.2.1]
  unfold evaluate
  split
  · split
    · exact asked
    · simp
  · rfl

/-- The target of a channel looks at the sensors and the clock (R139). -/
theorem dimTarget_congr {s t : State} (sensors : t.fu.sensors = s.fu.sensors) (sc : t.sc = s.sc) (p : DimParams) :
    dimTarget t p = dimTarget s p := by
  unfold dimTarget clockSet
  rw [sensors, sc]

theorem rampDims_of_ne {s : State} (run : s.xp.run ≠ .running) : rampDims s = s := by
  simp [rampDims, run]

/-- A ramp step in RUNNING moves the duties of the configured channels. -/
theorem rampDims_get {s : State} (run : s.xp.run = .running) (k : Nat) :
    (rampDims s).fu.dims[k]? =
      (s.fu.dims[k]?).map fun d =>
        if dimConfigured s.fu.lines k then { d with duty := rampToward d.duty (dimTarget s d.par) } else d := by
  rw [rampDims, if_pos run, onDims_get]

/-- The evaluation pass before a ramp step moves no duty and no target. -/
theorem rampDims_evaluate_get {s : State} (run : s.xp.run = .running) (k : Nat) :
    (rampDims (evaluate s)).fu.dims[k]? =
      (s.fu.dims[k]?).map fun d =>
        if dimConfigured s.fu.lines k then { d with duty := rampToward d.duty (dimTarget s d.par) } else d := by
  have fu := evaluate_fu s
  have sensors : (evaluate s).fu.sensors = s.fu.sensors := by rw [fu]
  have lines : (evaluate s).fu.lines = s.fu.lines := by rw [fu]
  have dims : (evaluate s).fu.dims = s.fu.dims := by rw [fu]
  rw [rampDims_get (by simp [run]), lines, dims]
  simp only [dimTarget_congr sensors (evaluate_frame s).2.1]

/-- A duty moves toward its target by at most 20, and not past it (R140). -/
theorem rampToward_spec (duty target : Nat) :
    (duty < target → rampToward duty target = min (duty + 20) target) ∧
    (target < duty → rampToward duty target = max (duty - 20) target) ∧
    (duty = target → rampToward duty target = duty) := by
  refine ⟨fun below => ?_, fun above => ?_, fun reached => ?_⟩
  · rw [rampToward, if_pos below]; rfl
  · rw [rampToward, if_neg (Nat.lt_asymm above), if_pos above]; rfl
  · simp [rampToward, reached]

/-- Settles O39: the ramp step takes each configured duty toward its target. -/
theorem dutiesRampAtRunningTicks : Obligations.DutiesRampAtRunningTicks := by
  unfold Obligations.DutiesRampAtRunningTicks
  intro s k d tick later channel
  have command : exec .runningTick s = .next (rampDims (evaluate s)) :=
    congrArg Host.Outcome.next (if_pos (atRunningTick_of tick later))
  have ramped (run : s.xp.run = .running) := rampDims_evaluate_get run k
  simp only [channel, Option.map_some] at ramped
  refine ⟨_, command, fun other => ?_, fun run unconfigured => ?_, fun run configured => ?_⟩
  · rw [evaluate_of_ne other, rampDims_of_ne other]
  · rw [ramped run, unconfigured]
    rfl
  · refine ⟨{ d with duty := rampToward d.duty (dimTarget s d.par) }, ?_, rfl, rampToward_spec _ _⟩
    rw [ramped run, configured]
    rfl

/-! ### The waveform (R137) -/

theorem dimPeriod_get (s : State) (k : Nat) :
    (dimPeriod s).fu.dims[k]? =
      (s.fu.dims[k]?).map fun d =>
        if dimConfigured s.fu.lines k then { d with drive := some (dimWaveform d.duty d.par.dead) } else d :=
  onDims_get _ s k

/-- Duties of 0 and 1000 hold their pair at two levels for the whole period; between them the true line is high from the
dead time to the duty, and the complement from the dead time after the duty to the end. -/
theorem dimWaveform_spec (x dead : Nat) :
    (x = 0 → dimWaveform x dead = ⟨none, some (0, 10000)⟩) ∧
    (x = 1000 → dimWaveform x dead = ⟨some (0, 10000), none⟩) ∧
    (0 < x → x < 1000 →
      dimWaveform x dead =
        ⟨if 10 * x ≤ dead then none else some (dead, 10 * x),
          if 10000 ≤ 10 * x + dead then none else some (10 * x + dead, 10000)⟩) := by
  refine ⟨fun off => ?_, fun full => ?_, fun lit unfull => ?_⟩
  · rw [dimWaveform, if_pos off]
  · rw [dimWaveform, if_neg (by omega), if_pos (by omega)]
  · rw [dimWaveform, if_neg (by omega), if_neg (by omega)]

/-- A change of the channels that leaves the period of each alone. -/
theorem onDims_drives {f : Nat → Dim → Dim} (same : ∀ k d, (f k d).drive = d.drive) (s : State) :
    (onDims f s).fu.dims.map (·.drive) = s.fu.dims.map (·.drive) :=
  List.ext_getElem? fun k => by simp [onDims_get, Function.comp_def, same]

theorem rampDims_drives (s : State) : (rampDims s).fu.dims.map (·.drive) = s.fu.dims.map (·.drive) := by
  unfold rampDims
  split
  · exact onDims_drives (fun k d => by split <;> rfl) s
  · rfl

theorem runningTick_drives {s t : State} (h : exec .runningTick s = .next t) :
    t.fu.dims.map (·.drive) = s.fu.dims.map (·.drive) := by
  obtain rfl := Host.Outcome.next.inj h
  split
  · rw [rampDims_drives, congrArg FU.dims (evaluate_fu s)]
  · rfl

/-- The STOPPING sequence moves no channel. -/
@[simp] theorem advanceStop_dims (s : State) : (advanceStop s).fu.dims = s.fu.dims := by
  obtain view | ⟨-, view⟩ := advanceStop_dutyView s <;> exact congrArg DutyView.dims view

theorem stop_drives {s t : State} (h : exec .stop s = .next t) :
    t.fu.dims.map (·.drive) = s.fu.dims.map (·.drive) := by
  obtain rfl := Host.Outcome.next.inj h
  split
  · rw [enterStopping_eq, advanceStop_dims]
    exact onDims_drives (f := fun _ d => { d with duty := 0 }) (fun _ _ => rfl) _
  all_goals rfl

/-- Settles O40: the period is driven by `dimWaveform`, and neither a ramp nor a STOP touches it. -/
theorem dimPeriodDrivesThePair : Obligations.DimPeriodDrivesThePair := by
  unfold Obligations.DimPeriodDrivesThePair
  intro s
  refine ⟨⟨dimPeriod s, rfl, rfl, by simp [dimPeriod, onDims], fun k d channel => ?_⟩, fun c t command h => ?_⟩
  · have period := dimPeriod_get s k
    simp only [channel, Option.map_some] at period
    refine ⟨fun unconfigured => by rw [period, unconfigured]; rfl, fun configured => ?_⟩
    obtain ⟨off, full, between⟩ := dimWaveform_spec d.duty d.par.dead
    refine ⟨dimWaveform d.duty d.par.dead, by rw [period, configured]; rfl, off, fun duties dark => ?_, full,
      fun lit unfull => ?_⟩
    · exact off (duties.dark dark d (List.mem_of_getElem? channel))
    · rw [between lit unfull]
      exact ⟨rfl, rfl⟩
  · rcases command with rfl | rfl
    · exact runningTick_drives h
    · exact stop_drives h

/-! ### Sensors and strobes (R135, R138) -/

theorem atSlewPoint_of {s : State} (point : s.sc.u % 100 = 0) (later : s.sc.u ≠ 0) : atSlewPoint s = true := by
  simp [atSlewPoint, point, later]

/-- The four readings are those of the operands in their order. -/
theorem sensorReading_eq (r0 r1 r2 r3 : BitVec 10) {k : Nat} (hk : k < 4) :
    sensorReading r0 r1 r2 r3 k = ([r0, r1, r2, r3].map BitVec.toNat).getD k 0 := by
  match k, hk with
  | 0, _ | 1, _ | 2, _ | 3, _ => rfl

theorem sampleSensors_get (r : Nat → Nat) (s : State) (k : Nat) :
    (sampleSensors r s).fu.sensors[k]? =
      (s.fu.sensors[k]?).map fun h => if lineFn s.fu.lines (40 + k) = .analog then appendSample (r k) h else h := by
  simp [sampleSensors, List.getElem?_zipIdx, Function.comp_def]

/-- A change of one line changes that line alone. -/
theorem setLine_get (n : Nat) (f : FieldLine → FieldLine) (s : State) (i : Nat) :
    (setLine n f s).fu.lines[i]? = (s.fu.lines[i]?).map fun l => if i = n then f l else l := by
  simp only [setLine, onFu_fu, List.getElem?_modify, eq_comm (a := n)]
  split <;> simp

theorem pulseOver_iff (u : Nat) (l : FieldLine) : pulseOver u l = true ↔ ∃ e, l.pulseEnd = some e ∧ e ≤ u := by
  simp [pulseOver, Option.any_eq_true]

/-- Settles O41: a sample goes to the sensor of each ANALOG line, and a pulse ends at the line named. -/
theorem sensorsSampleAndStrobesEnd : Obligations.SensorsSampleAndStrobesEnd := by
  unfold Obligations.SensorsSampleAndStrobesEnd
  intro s r0 r1 r2 r3 line
  refine ⟨fun point later => ?_, endPulse line s, rfl, rfl, fun i l held => ?_⟩
  · have command : exec (.sensorSample r0 r1 r2 r3) s = .next (sampleSensors (sensorReading r0 r1 r2 r3) s) :=
      congrArg Host.Outcome.next (if_pos (atSlewPoint_of point later))
    refine ⟨_, command, rfl, fun k h samples hk => ⟨fun other => ?_, fun analog => ?_⟩⟩
    · rw [sampleSensors_get, samples, Option.map_some, if_neg other]
    · rw [sampleSensors_get, samples, Option.map_some, if_pos analog, sensorReading_eq r0 r1 r2 r3 hk]
      rfl
  · rw [endPulse, setLine_get, held, Option.map_some]
    by_cases named : i = line <;> simp [named, pulseOver_iff]

end Sys2Proof.Machine

/-! PROOF of what STOP does in each run state (R180, R181, R184). -/

namespace Sys2Proof.Machine

open Sys2Proof.Safety

/-- The STOPPING sequence takes no post. -/
theorem advanceStop_postQueue (s : State) : (advanceStop s).xp.postQueue = s.xp.postQueue := by
  have page (t : State) : (pageStep t).xp.postQueue = t.xp.postQueue := by
    unfold pageStep
    split
    · split
      · simp
      · split <;> simp
    · rfl
  have lane (t : State) : (laneStep t).xp.postQueue = t.xp.postQueue := by
    unfold laneStep
    split
    · rw [enterStopped_eq]
      split <;> simp [stoppedState]
    · rfl
  unfold advanceStop
  split
  · rw [lane, page]
    simp
  · rfl

/-- The STOPPING sequence ends in STOPPED or goes on in STOPPING. -/
theorem advanceStop_run {s : State} (run : s.xp.run = .stopping) :
    (advanceStop s).xp.run = .stopping ∨ (advanceStop s).xp.run = .stopped := by
  obtain view | ⟨-, view⟩ := advanceStop_dutyView s
  · exact .inl ((congrArg DutyView.run view).trans run)
  · exact .inr (congrArg DutyView.run view)

/-- A STOP in RUNNING: the queue of posts, the flags, the frame-wanted mark and the duties, behind the sequence. -/
theorem enterStopping_spec (s : State) :
    (enterStopping s).xp.postQueue = [] ∧ (enterStopping s).xp.attn.getLsbD 6 = true ∧
    (enterStopping s).wc.frameWanted = false ∧ (∀ d ∈ (enterStopping s).fu.dims, d.duty = 0) := by
  rw [enterStopping_eq]
  refine ⟨advanceStop_postQueue _, advanceStop_attn ?_, ?_, ?_⟩
  · simp [stopBegun, enterRun, raiseAttn, AttnFlag.bit]
  · rw [advanceStop_wc]
    simp [stopBegun]
  · rw [advanceStop_dims]
    exact zeroDuties_dark _

/-- A sheet in flight keeps the sequence at the sheet step (R184 step 1). -/
theorem enterStopping_of_sheet {s : State} (sheet : s.xp.sheet ≠ none) : enterStopping s = stopBegun s :=
  (advanceStop_at_sheet (s := stopBegun s) rfl rfl).1 (by simpa [stopBegun] using sheet)

/-- Settles O7: STOP acts by the run state, and in RUNNING the STOPPING sequence begins at once. -/
theorem stopEntersStopping : Obligations.StopEntersStopping := by
  unfold Obligations.StopEntersStopping
  intro s
  refine ⟨fun running => ?_, fun starting => ?_, fun idle => ?_⟩
  · have command : exec .stop s = .next (enterStopping s) := by simp [exec, execStop, running]
    obtain ⟨ru, sc, mem, pending, free⟩ := enterStopping_frame s
    obtain ⟨posts, attn, unwanted, dark⟩ := enterStopping_spec s
    refine ⟨_, command, eq_of_blocks rfl ru rfl sc rfl rfl rfl mem pending free, advanceStop_run rfl, posts, attn, unwanted,
      dark, fun sheet => ?_⟩
    rw [enterStopping_of_sheet sheet]
    exact ⟨rfl, rfl, rfl⟩
  · simp [exec, execStop, starting, State.onXp]
  · rcases idle with stopped | stopping
    · simp [exec, execStop, stopped]
    · simp [exec, execStop, stopping]

end Sys2Proof.Machine

/-! PROOF of the writes that open and close a page (R135, R158, R160, R163). -/

namespace Sys2Proof.Machine

open Sys2Proof.Safety

/-- A request that is made while the answered one is still on the link is there behind the arbiter's choice. -/
theorem requested_behind_answer {s : State} {f : InFlight} {q : MemReq} (busy : s.xp.inFlight = some f) :
    requested q (releaseLink (request q s)) := by
  rw [request_busy busy]
  exact requested_releaseLink (by simp)

/-- The command that brings an answer outside STOPPING: the block acts, and the arbiter chooses. -/
theorem exec_of_awaited_running {c : Instr} {a : Access} {act : State → State} {r : MemReq} {s : State}
    (command : exec c s = .next (complete a (onLanded act) s)) (h : awaited a r s)
    (run : (act (landWrite r s)).xp.run = .running) :
    exec c s = .next (releaseLink (act (landWrite r s))) := by
  rw [exec_of_awaited command h, onLanded, advanceStop_of_ne (by simp [run])]

/-! ### The record of a cue looks at the templates and parameters alone (R154) -/

theorem callGroups_openPage (x : CQ) (o : Option OpenPage) (copies : List (Nat × NameText)) (calls : List Nat) :
    callGroups { x with openPage := o } copies calls = callGroups x copies calls := by
  induction calls using callGroups.induct with
  | case1 | case2 | case3 => rfl
  | case4 a b c rest ih => rw [callGroups, callGroups, ih]

theorem itemGroups_openPage (x : CQ) (o : Option OpenPage) (copies : List (Nat × NameText)) (c : Cue) :
    itemGroups { x with openPage := o } copies c = itemGroups x copies c := by
  funext item
  cases item with
  | calls => simp only [itemGroups, callGroups_openPage]
  | literal | runLabel | dest | platform | oldPlatform | schedTime | expTime | delayMin | reason | noticeText => rfl

theorem recordBytes_openPage (x : CQ) (o : Option OpenPage) (copies : List (Nat × NameText)) (c : Cue) :
    recordBytes { x with openPage := o } copies c = recordBytes x copies c := by
  have phrases : expandCue { x with openPage := o } copies c = expandCue x copies c := by
    unfold expandCue
    rw [itemGroups_openPage]
    rfl
  unfold recordBytes
  rw [phrases]

/-! ### OPEN (R160) -/

/-- The open page takes cues. -/
def pageFilling (p : OpenPage) (s : State) : State :=
  s.onCq fun x => { x with openPage := some { p with phase := .filling } }

theorem pageFilling_recordBytes (p : OpenPage) (s : State) (copies : List (Nat × NameText)) (c : Cue) :
    recordBytes (pageFilling p s).cq copies c = recordBytes s.cq copies c :=
  recordBytes_openPage s.cq _ copies c

theorem openWritten_eq {s : State} {p : OpenPage} (page : s.cq.openPage = some p) (opening : p.phase = .opening) :
    openWritten s = progressWrite (pageFilling p s) := by
  simp [openWritten, page, opening, pageFilling]

/-- With its names there, the record of the cue that a filling page takes is written (R157, R160). -/
theorem progressWrite_eq {s : State} {p : OpenPage} {w : CueWrite} (page : s.cq.openPage = some p)
    (filling : p.phase = .filling) (writing : s.cq.writing = some w) (names : w.awaiting = []) (first : w.requested = false) :
    progressWrite s =
      request
        ⟨.recordWrite, linkAddr (s.xp.xbase.toNat * 65536 + 0x6000 + 4096 * p.page + 64 + 160 * w.record),
          (recordBytes s.cq w.copies w.cue).length, recordBytes s.cq w.copies w.cue⟩
        (s.onCq fun x => { x with writing := some { w with requested := true } }) := by
  simp [progressWrite, page, writing, filling, names, first, writeReq, pageAddr, areaBase]

/-! ### The header and CLOSED (R163) -/

/-- Behind the header CLOSED is requested (R163 step 3). -/
theorem pageHeaderWritten_eq {s : State} {p : OpenPage} (page : s.cq.openPage = some p) :
    pageHeaderWritten s =
      request ⟨.closedWrite, linkAddr (s.xp.xbase.toNat * 65536 + 0x6000 + 4096 * p.page), 4, leBytes 4 2⟩ s := by
  simp [pageHeaderWritten, page, writeReq, pageAddr, areaBase, leBytes_length]

/-- A page closed: CUE_PAGE is raised and the cursor advances; of the rest of the Cue Sequencer, the next try alone (R163
steps 4 and 5). -/
theorem pageClosed_spec (s : State) :
    (pageClosed s).xp.attn = s.xp.attn ||| 2#7 ∧ (pageClosed s).cq.openPage = none ∧
    (pageClosed s).cq.cursor = (s.cq.cursor + 1) % 8 ∧ (pageClosed s).cq.queue = s.cq.queue ∧
    (pageClosed s).fu = (pulseStrobes s).fu := by
  unfold pageClosed
  rw [tryOpenPage_cq]
  refine ⟨?_, ?_, ?_, ?_, ?_⟩
  · simp [raiseAttn, AttnFlag.bit]
  · simp [advanceCursor]
  · simp [advanceCursor]
  · simp [advanceCursor]
  · simp [pulseStrobes]

/-- A strobe goes active at a page close, and no other line changes (R135). -/
theorem pulseStrobes_line {s : State} {i : Nat} {l : FieldLine} (held : s.fu.lines[i]? = some l) :
    (∀ low width, l.fn = .strobe low width →
      (pulseStrobes s).fu.lines[i]? = some { l with pulseEnd := some (s.sc.u + width) }) ∧
    ((∀ low width, l.fn ≠ .strobe low width) → (pulseStrobes s).fu.lines[i]? = some l) := by
  refine ⟨fun low width strobe => ?_, fun other => ?_⟩
  · simp [pulseStrobes, held, strobe]
  · simp [pulseStrobes, held]

/-- Settles O47: each answer's block acts by its own lemma above, and its request waits behind the answer. -/
theorem pageOpensAndCloses : Obligations.PageOpensAndCloses := by
  unfold Obligations.PageOpensAndCloses
  intro s r p page running
  refine ⟨fun h opening => ?_, fun h => ?_, fun h => ?_⟩ <;> have ⟨f, busy, _⟩ := h
  · have opened := openWritten_eq (s := landWrite r s) page opening
    refine ⟨_, exec_of_awaited_running (c := .openWriteComplete) rfl h (by simp [running]), ?mem, ?frame, ?filling,
      fun w writing names first => ?record⟩
    case mem => simp
    case frame => exact eq_of_blocks rfl (by simp) (by simp) (by simp) (by simp) (by simp) rfl rfl (by simp) (by simp)
    case filling => simp [opened, pageFilling]
    case record =>
      rw [opened, progressWrite_eq (s := pageFilling p (landWrite r s)) rfl rfl writing names first,
        pageFilling_recordBytes]
      exact requested_behind_answer (f := f) (by exact busy)
  · have written := pageHeaderWritten_eq (s := landWrite r s) page
    refine ⟨_, exec_of_awaited_running (c := .pageHeaderWriteComplete) rfl h (by simp [running]), ?mem, ?frame, ?closed⟩
    case mem => simp
    case frame => exact eq_of_blocks rfl (by simp) (by simp) (by simp) (by simp) (by simp) (by simp) rfl (by simp) (by simp)
    case closed =>
      rw [written]
      exact requested_behind_answer (f := f) (by exact busy)
  · obtain ⟨attn, closed, cursor, queue, fu⟩ := pageClosed_spec (landWrite r s)
    refine ⟨_, exec_of_awaited_running (c := .closedWriteComplete) rfl h (by simp [running]), ?mem, ?frame, ?attn, ?closed,
      ?cursor, ?queue, fun i l held => ?line⟩
    case mem => simp
    case frame => exact eq_of_blocks rfl (by simp) (by simp) (by simp) (by simp) rfl rfl rfl (by simp) (by simp)
    case attn => simpa using attn
    case closed => simpa using closed
    case cursor => simpa using cursor
    case queue => simpa using queue
    case line =>
      rw [(releaseLink_frame _).2.2.2.2.1, fu]
      exact pulseStrobes_line (s := landWrite r s) held

end Sys2Proof.Machine
